-- ==== Sys2Proof/Word.lean ====
section
/-! DEFINITION. The bit-vector types of the block (00_scope.md R8, R12; 30_encoding.md R85). -/

namespace Sys2Proof

/-- A byte of an operation word as the host lays it out (20_memory.md R63). -/
abbrev Byte := BitVec 8

/-- The bus data width and the width of every register (20_memory.md R60, R62). -/
abbrev Word := BitVec 32

/-- The width of a history window, of the counter and of an alarm target (00_scope.md R8). -/
abbrev Wide := BitVec 64

/-- A byte offset in the 4 KiB register space (20_memory.md R60). -/
abbrev Addr := BitVec 12

/-- The operation word `T`: `rw[44]`, `addr[43:32]`, `data[31:0]` (30_encoding.md R85). -/
abbrev OpWord := BitVec 45

end Sys2Proof
end

