-- ==== Sys2Proof/Syntax.lean ====
section
/-! DEFINITION. The operations of the block, one constructor per row of opcode_table.json (30_encoding.md R113). Operands are
the fields of the operation word that the row uses (30_encoding.md R87, R88); bits the row ignores are no operand. -/

namespace Sys2Proof

/-- One host operation (00_scope.md R3). -/
inductive Instr where
  -- 40_debounce_shift_register.md; `b = addr[9:5]`
  /-- `RD_BTN_RAW_LO` (R130) -/
  | rdBtnRawLo (b : BitVec 5)
  /-- `RD_BTN_RAW_HI` (R131) -/
  | rdBtnRawHi (b : BitVec 5)
  /-- `RD_BTN_FILT_LO` (R132) -/
  | rdBtnFiltLo (b : BitVec 5)
  /-- `RD_BTN_FILT_HI` (R133) -/
  | rdBtnFiltHi (b : BitVec 5)
  -- 42_button_event_classifier.md
  /-- `WR_BTN_STAGE_A` (R150) -/
  | wrBtnStageA (data : Word)
  /-- `WR_BTN_STAGE_B` (R151) -/
  | wrBtnStageB (data : Word)
  /-- `RD_BTN_STAGE_A` (R152) -/
  | rdBtnStageA
  /-- `RD_BTN_STAGE_B` (R153) -/
  | rdBtnStageB
  /-- `WR_BTN_CMD` (R159): `index = data[7:0]`, `en = data[8]` -/
  | wrBtnCmd (index : BitVec 8) (en : Bool)
  /-- `RD_BTN_CFG_A` (R170) -/
  | rdBtnCfgA (b : BitVec 5)
  /-- `RD_BTN_CFG_B` (R171) -/
  | rdBtnCfgB (b : BitVec 5)
  /-- `RD_BTN_REP` (R172) -/
  | rdBtnRep (b : BitVec 5)
  /-- `RD_BTN_EN` (R173) -/
  | rdBtnEn
  -- 43_button_group_queue.md
  /-- `WR_GRP_CFG` (R183): `n = data[15:0]` -/
  | wrGrpCfg (n : BitVec 16)
  /-- `RD_GRP_CFG` (R184) -/
  | rdGrpCfg
  /-- `WR_GRP_SCAN` (R185) -/
  | wrGrpScan
  /-- `RD_GRP_SCANCNT` (R186) -/
  | rdGrpScancnt
  /-- `RD_GRP_SKIPREM` (R187) -/
  | rdGrpSkiprem
  /-- `POLL` (R182) -/
  | poll
  /-- `RD_EVQ_STATUS` (R188) -/
  | rdEvqStatus
  -- 44_timer_alarm_scheduler.md; `i = addr[7:5]`
  /-- `RD_ID` (R203) -/
  | rdId
  /-- `RD_PARAMS` (R204) -/
  | rdParams
  /-- `RD_FLOOR` (R205) -/
  | rdFloor
  /-- `RD_TIMELR` (R196) -/
  | rdTimelr
  /-- `RD_TIMEHR` (R197) -/
  | rdTimehr
  /-- `WR_ALM_INTERVAL` (R208) -/
  | wrAlmInterval (data : Word)
  /-- `WR_ALM_PARAM` (R209) -/
  | wrAlmParam (data : Word)
  /-- `RD_ALM_INTERVAL` (R206) -/
  | rdAlmInterval
  /-- `RD_ALM_PARAM` (R207) -/
  | rdAlmParam
  /-- `ALM_CLEAR` (R210): `ALM_CMD` with op 0, `id = data[15:8]` -/
  | almClear (id : BitVec 8)
  /-- `ALM_SET_ONESHOT` (R213): `ALM_CMD` with op 1, `act = data[3:2]`, `id = data[15:8]` -/
  | almSetOneshot (act : BitVec 2) (id : BitVec 8)
  /-- `ALM_SET_REPEATING` (R214): `ALM_CMD` with op 2 -/
  | almSetRepeating (act : BitVec 2) (id : BitVec 8)
  /-- `ALM_CMD_RSVD` (R216): `ALM_CMD` with the reserved op 3 -/
  | almCmdRsvd (id : BitVec 8)
  /-- `WR_ALM_EOI` (R222): `id = data[7:0]` -/
  | wrAlmEoi (id : BitVec 8)
  /-- `RD_ALM_STATUS` (R223) -/
  | rdAlmStatus
  /-- `RD_ALM_TARGET_LO` (R224) -/
  | rdAlmTargetLo (i : BitVec 3)
  /-- `RD_ALM_TARGET_HI` (R225) -/
  | rdAlmTargetHi (i : BitVec 3)
  /-- `RD_ALM_INTERVAL_I` (R226) -/
  | rdAlmIntervalI (i : BitVec 3)
  /-- `RD_ALM_PARAM_I` (R227) -/
  | rdAlmParamI (i : BitVec 3)
  /-- `RD_ALM_CTRL` (R228) -/
  | rdAlmCtrl (i : BitVec 3)
  /-- `RD_ARMED` (R229) -/
  | rdArmed
  -- 45_interrupt_arbiter.md; a channel mask is `data[7:0]`, of which bits at `NALM` and above are ignored (30_encoding.md R95)
  /-- `RD_INTR` (R231) -/
  | rdIntr
  /-- `WR_INTR` (R232) -/
  | wrIntr (mask : BitVec 8)
  /-- `RD_INTE` (R236) -/
  | rdInte
  /-- `WR_INTE` (R233) -/
  | wrInte (mask : BitVec 8)
  /-- `WR_INTE_SET` (R234) -/
  | wrInteSet (mask : BitVec 8)
  /-- `WR_INTE_CLR` (R235) -/
  | wrInteClr (mask : BitVec 8)
  /-- `RD_INTS` (R237) -/
  | rdInts
  /-- `RD_INSVC` (R238) -/
  | rdInsvc
  -- 20_memory.md
  /-- `RD_UNMAPPED` (R69), the catch-all row of reads -/
  | rdUnmapped (addr : Addr)
  /-- `WR_UNMAPPED` (R69), the catch-all row of writes -/
  | wrUnmapped (addr : Addr)
  deriving DecidableEq, Repr

end Sys2Proof
end

