-- ==== Sys2Proof/WellFormed.lean ====
section
/-! DEFINITION. Which terms of `Instr` are operations of the block. Every operand but the address of a catch-all row has the
exact width of its field, so the only checks are those of the two catch-all rows: the address is a multiple of 4
(20_memory.md R62) and no named row of the same direction has it (30_encoding.md R86). -/

namespace Sys2Proof

/-- The fixed offsets that 30_encoding.md R90 lists as readable (access `R`, `RW`, `R / W1C`, `RP`). -/
def readableFixed : List Addr :=
  [0x000, 0x004, 0x008, 0x010, 0x014, 0x020, 0x024, 0x030, 0x034, 0x038, 0x040, 0x044, 0x04C, 0x080, 0x088, 0x08C, 0x090,
   0x094, 0x0A0, 0x0A4, 0x0AC]

/-- The offsets that 30_encoding.md R90 lists as writable (access `RW`, `W`, `W1C`, `W1S`). -/
def writableFixed : List Addr :=
  [0x020, 0x024, 0x028, 0x02C, 0x040, 0x044, 0x048, 0x050, 0x080, 0x084, 0x0A0, 0x0A4, 0x0A8]

/-- The registers of a channel block, by `addr[4:0]` (30_encoding.md R89, R90). -/
def readableInChannel : List (BitVec 5) := [0x00, 0x04, 0x08, 0x0C, 0x10]

/-- The registers of a button block, by `addr[4:0]` (30_encoding.md R89, R90). -/
def readableInButton : List (BitVec 5) := [0x00, 0x04, 0x08, 0x0C, 0x10, 0x14, 0x18]

/-- A 32-bit access needs `addr[1:0] = 0` (20_memory.md R62). -/
def wordAligned (a : Addr) : Bool := a.extractLsb' 0 2 == 0#2

/-- Some named read row has this address (30_encoding.md R89, R90). -/
def namedRead (a : Addr) : Bool :=
  readableFixed.contains a
    || (decide (0x100 ≤ a.toNat ∧ a.toNat ≤ 0x1FF) && readableInChannel.contains (a.extractLsb' 0 5))
    || (decide (0x400 ≤ a.toNat ∧ a.toNat ≤ 0x7FF) && readableInButton.contains (a.extractLsb' 0 5))

/-- Some named write row has this address (30_encoding.md R90). -/
def namedWrite (a : Addr) : Bool := writableFixed.contains a

/-- The term is an operation of the block: it has an operation word of its own (30_encoding.md R85, R86). -/
def Instr.wellFormed : Instr → Bool
  | .rdUnmapped a => wordAligned a && !namedRead a
  | .wrUnmapped a => wordAligned a && !namedWrite a
  | .rdBtnRawLo _ | .rdBtnRawHi _ | .rdBtnFiltLo _ | .rdBtnFiltHi _ => true
  | .wrBtnStageA _ | .wrBtnStageB _ | .rdBtnStageA | .rdBtnStageB | .wrBtnCmd _ _ => true
  | .rdBtnCfgA _ | .rdBtnCfgB _ | .rdBtnRep _ | .rdBtnEn => true
  | .wrGrpCfg _ | .rdGrpCfg | .wrGrpScan | .rdGrpScancnt | .rdGrpSkiprem | .poll | .rdEvqStatus => true
  | .rdId | .rdParams | .rdFloor | .rdTimelr | .rdTimehr => true
  | .wrAlmInterval _ | .wrAlmParam _ | .rdAlmInterval | .rdAlmParam => true
  | .almClear _ | .almSetOneshot _ _ | .almSetRepeating _ _ | .almCmdRsvd _ | .wrAlmEoi _ | .rdAlmStatus => true
  | .rdAlmTargetLo _ | .rdAlmTargetHi _ | .rdAlmIntervalI _ | .rdAlmParamI _ | .rdAlmCtrl _ | .rdArmed => true
  | .rdIntr | .wrIntr _ | .rdInte | .wrInte _ | .wrInteSet _ | .wrInteClr _ | .rdInts | .rdInsvc => true

end Sys2Proof
end

