-- ==== Sys2Proof/Decode.lean ====
section
/-! DEFINITION. The operation word and its decoding (30_encoding.md R85 to R89), total on every word and on every list of
bytes, rejecting by name; then the encoder, written from the same register map (R90) and field layouts (R95 to R105). -/

namespace Sys2Proof

/-! ## The fields of an operation word (R85) -/

/-- `T = rw[44], addr[43:32], data[31:0]`. -/
def packOp (rw : Bool) (addr : Addr) (data : Word) : OpWord := BitVec.ofBool rw ++ addr ++ data

/-- `T[44]`: 1 = write, 0 = read. -/
def opRw (t : OpWord) : Bool := t.getLsbD 44

/-- `T[43:32]`: the byte offset of the register. -/
def opAddr (t : OpWord) : Addr := t.extractLsb' 32 12

/-- `T[31:0]`: the value written; of a read, ignored. -/
def opData (t : OpWord) : Word := t.extractLsb' 0 32

/-! ## Decoding (R86) -/

/-- Why bytes are no operation. -/
inductive DecodeError where
  /-- `addr[1:0] ≠ 0` (20_memory.md R62). -/
  | misaligned
  /-- A bit above `T[44]` is 1: not a 45-bit operation word (30_encoding.md R85). -/
  | notAnOperationWord
  /-- Not the six bytes that hold the 45 bits of an operation word. -/
  | wrongLength
  deriving DecidableEq, Repr

/-- The named read rows at a fixed offset, by offset (R90). -/
def fixedReads : List (Addr × Instr) :=
  [(0x000, .rdId), (0x004, .rdParams), (0x008, .rdFloor), (0x010, .rdTimelr), (0x014, .rdTimehr),
   (0x020, .rdIntr), (0x024, .rdInte), (0x030, .rdInts), (0x034, .rdArmed), (0x038, .rdInsvc),
   (0x040, .rdAlmInterval), (0x044, .rdAlmParam), (0x04C, .rdAlmStatus),
   (0x080, .rdGrpCfg), (0x088, .rdGrpScancnt), (0x08C, .rdGrpSkiprem), (0x090, .poll), (0x094, .rdEvqStatus),
   (0x0A0, .rdBtnStageA), (0x0A4, .rdBtnStageB), (0x0AC, .rdBtnEn)]

/-- The read rows of the block of channel `i`, by `addr[4:0]` (R89, R90). -/
def channelReads (i : BitVec 3) : List (BitVec 5 × Instr) :=
  [(0x00, .rdAlmTargetLo i), (0x04, .rdAlmTargetHi i), (0x08, .rdAlmIntervalI i), (0x0C, .rdAlmParamI i), (0x10, .rdAlmCtrl i)]

/-- The read rows of the block of button `b`, by `addr[4:0]` (R89, R90). -/
def buttonReads (b : BitVec 5) : List (BitVec 5 × Instr) :=
  [(0x00, .rdBtnCfgA b), (0x04, .rdBtnCfgB b), (0x08, .rdBtnRawLo b), (0x0C, .rdBtnRawHi b), (0x10, .rdBtnFiltLo b),
   (0x14, .rdBtnFiltHi b), (0x18, .rdBtnRep b)]

/-- The read that an aligned address names: a fixed register, a register of an indexed block, or the catch-all row
(R86, R89). An index that is out of range still names its row; the row's meaning then reads 0. -/
def decodeRead (a : Addr) : Instr :=
  match fixedReads.lookup a with
  | some i => i
  | none =>
    if 0x100 ≤ a.toNat ∧ a.toNat ≤ 0x1FF then
      ((channelReads (a.extractLsb' 5 3)).lookup (a.extractLsb' 0 5)).getD (.rdUnmapped a)
    else if 0x400 ≤ a.toNat ∧ a.toNat ≤ 0x7FF then
      ((buttonReads (a.extractLsb' 5 5)).lookup (a.extractLsb' 0 5)).getD (.rdUnmapped a)
    else .rdUnmapped a

/-- The four rows of `ALM_CMD`, chosen by `op = data[1:0]` (R97). -/
def decodeAlmCmd (data : Word) : Instr :=
  if data.extractLsb' 0 2 = 0#2 then .almClear (data.extractLsb' 8 8)
  else if data.extractLsb' 0 2 = 1#2 then .almSetOneshot (data.extractLsb' 2 2) (data.extractLsb' 8 8)
  else if data.extractLsb' 0 2 = 2#2 then .almSetRepeating (data.extractLsb' 2 2) (data.extractLsb' 8 8)
  else .almCmdRsvd (data.extractLsb' 8 8)

/-- The named write rows, by offset, with the fields of the data word each uses (R90, R95 to R105). -/
def fixedWrites (data : Word) : List (Addr × Instr) :=
  [(0x020, .wrIntr (data.extractLsb' 0 8)), (0x024, .wrInte (data.extractLsb' 0 8)),
   (0x028, .wrInteSet (data.extractLsb' 0 8)), (0x02C, .wrInteClr (data.extractLsb' 0 8)),
   (0x040, .wrAlmInterval data), (0x044, .wrAlmParam data), (0x048, decodeAlmCmd data),
   (0x050, .wrAlmEoi (data.extractLsb' 0 8)),
   (0x080, .wrGrpCfg (data.extractLsb' 0 16)), (0x084, .wrGrpScan),
   (0x0A0, .wrBtnStageA data), (0x0A4, .wrBtnStageB data),
   (0x0A8, .wrBtnCmd (data.extractLsb' 0 8) (data.getLsbD 8))]

/-- The write that an aligned address and a data word name (R86). -/
def decodeWrite (a : Addr) (data : Word) : Instr := ((fixedWrites data).lookup a).getD (.wrUnmapped a)

/-- R86: every 45-bit word with `addr[1:0] = 0` decodes to exactly one row; any other is no operation (20_memory.md R62). -/
def decode (t : OpWord) : Except DecodeError Instr :=
  if wordAligned (opAddr t) then .ok (if opRw t then decodeWrite (opAddr t) (opData t) else decodeRead (opAddr t))
  else .error .misaligned

/-- Decoding of bytes: the six bytes that hold the 45 bits of `T`, least significant first (the byte lanes of
20_memory.md R63; assumption 7). -/
def decodeBytes : List Byte → Except DecodeError Instr
  | [b0, b1, b2, b3, b4, b5] =>
    if b5.toNat < 32 then decode ((b5 ++ b4 ++ b3 ++ b2 ++ b1 ++ b0).setWidth 45) else .error .notAnOperationWord
  | _ => .error .wrongLength

/-- The six bytes of a number below 2^48, least significant first. -/
def tableBytes (w : Nat) : List Byte := (List.range 6).map fun k => BitVec.ofNat 8 (w >>> (8 * k))

/-- The instruction that the decoder reads from the bits `w` of a row of opcode_table.json, bit 0 the least significant bit
of `T`; bits at `nbits` and above are 0. -/
def decodeTableWord (nbits w : Nat) : Option Instr :=
  if w % 2 ^ nbits < 2 ^ 48 then (decodeBytes (tableBytes (w % 2 ^ nbits))).toOption else none

/-! ## Encoding -/

/-- `0x100 + 0x20*i + off` (R89, R90). -/
def channelOffset (i : BitVec 3) (off : BitVec 5) : Addr := 0x100#12 + 0x20#12 * i.setWidth 12 + off.setWidth 12

/-- `0x400 + 0x20*b + off` (R89, R90). -/
def buttonOffset (b : BitVec 5) (off : BitVec 5) : Addr := 0x400#12 + 0x20#12 * b.setWidth 12 + off.setWidth 12

/-- A read: the data bits are 0 by convention (R85). -/
def encodeRead (a : Addr) : OpWord := packOp false a 0#32

/-- A write of `data`. -/
def encodeWrite (a : Addr) (data : Word) : OpWord := packOp true a data

/-- The data word of `ALM_CMD` (R97): `op` in `[1:0]`, `action` in `[3:2]`, `id` in `[15:8]`, reserved bits 0. -/
def almCmdData (op act : BitVec 2) (id : BitVec 8) : Word :=
  op.setWidth 32 ||| (act.setWidth 32 <<< 2) ||| (id.setWidth 32 <<< 8)

/-- The data word of `BTN_CMD` (R105): `index` in `[7:0]`, `EN` in `[8]`. -/
def btnCmdData (index : BitVec 8) (en : Bool) : Word := index.setWidth 32 ||| ((BitVec.ofBool en).setWidth 32 <<< 8)

/-- The operation word of an operation, ignored bits 0 (R85, R90, R95 to R105). -/
def encode : Instr → OpWord
  | .rdBtnRawLo b => encodeRead (buttonOffset b 0x08#5)
  | .rdBtnRawHi b => encodeRead (buttonOffset b 0x0C#5)
  | .rdBtnFiltLo b => encodeRead (buttonOffset b 0x10#5)
  | .rdBtnFiltHi b => encodeRead (buttonOffset b 0x14#5)
  | .wrBtnStageA data => encodeWrite 0x0A0#12 data
  | .wrBtnStageB data => encodeWrite 0x0A4#12 data
  | .rdBtnStageA => encodeRead 0x0A0#12
  | .rdBtnStageB => encodeRead 0x0A4#12
  | .wrBtnCmd index en => encodeWrite 0x0A8#12 (btnCmdData index en)
  | .rdBtnCfgA b => encodeRead (buttonOffset b 0x00#5)
  | .rdBtnCfgB b => encodeRead (buttonOffset b 0x04#5)
  | .rdBtnRep b => encodeRead (buttonOffset b 0x18#5)
  | .rdBtnEn => encodeRead 0x0AC#12
  | .wrGrpCfg n => encodeWrite 0x080#12 (n.setWidth 32)
  | .rdGrpCfg => encodeRead 0x080#12
  | .wrGrpScan => encodeWrite 0x084#12 0#32
  | .rdGrpScancnt => encodeRead 0x088#12
  | .rdGrpSkiprem => encodeRead 0x08C#12
  | .poll => encodeRead 0x090#12
  | .rdEvqStatus => encodeRead 0x094#12
  | .rdId => encodeRead 0x000#12
  | .rdParams => encodeRead 0x004#12
  | .rdFloor => encodeRead 0x008#12
  | .rdTimelr => encodeRead 0x010#12
  | .rdTimehr => encodeRead 0x014#12
  | .wrAlmInterval data => encodeWrite 0x040#12 data
  | .wrAlmParam data => encodeWrite 0x044#12 data
  | .rdAlmInterval => encodeRead 0x040#12
  | .rdAlmParam => encodeRead 0x044#12
  | .almClear id => encodeWrite 0x048#12 (almCmdData 0#2 0#2 id)
  | .almSetOneshot act id => encodeWrite 0x048#12 (almCmdData 1#2 act id)
  | .almSetRepeating act id => encodeWrite 0x048#12 (almCmdData 2#2 act id)
  | .almCmdRsvd id => encodeWrite 0x048#12 (almCmdData 3#2 0#2 id)
  | .wrAlmEoi id => encodeWrite 0x050#12 (id.setWidth 32)
  | .rdAlmStatus => encodeRead 0x04C#12
  | .rdAlmTargetLo i => encodeRead (channelOffset i 0x00#5)
  | .rdAlmTargetHi i => encodeRead (channelOffset i 0x04#5)
  | .rdAlmIntervalI i => encodeRead (channelOffset i 0x08#5)
  | .rdAlmParamI i => encodeRead (channelOffset i 0x0C#5)
  | .rdAlmCtrl i => encodeRead (channelOffset i 0x10#5)
  | .rdArmed => encodeRead 0x034#12
  | .rdIntr => encodeRead 0x020#12
  | .wrIntr mask => encodeWrite 0x020#12 (mask.setWidth 32)
  | .rdInte => encodeRead 0x024#12
  | .wrInte mask => encodeWrite 0x024#12 (mask.setWidth 32)
  | .wrInteSet mask => encodeWrite 0x028#12 (mask.setWidth 32)
  | .wrInteClr mask => encodeWrite 0x02C#12 (mask.setWidth 32)
  | .rdInts => encodeRead 0x030#12
  | .rdInsvc => encodeRead 0x038#12
  | .rdUnmapped a => encodeRead a
  | .wrUnmapped a => encodeWrite a 0#32

/-! ## The rows of opcode_table.json (R86) -/

/-- The mask and the match of the row that an operation belongs to: its words `T` are those with `T & mask = match`. -/
def opcodeRow : Instr → OpWord × OpWord
  | .rdBtnRawLo _ => (0x1C1F00000000#45, 0x040800000000#45)
  | .rdBtnRawHi _ => (0x1C1F00000000#45, 0x040C00000000#45)
  | .rdBtnFiltLo _ => (0x1C1F00000000#45, 0x041000000000#45)
  | .rdBtnFiltHi _ => (0x1C1F00000000#45, 0x041400000000#45)
  | .wrBtnStageA _ => (0x1FFF00000000#45, 0x10A000000000#45)
  | .wrBtnStageB _ => (0x1FFF00000000#45, 0x10A400000000#45)
  | .rdBtnStageA => (0x1FFF00000000#45, 0x00A000000000#45)
  | .rdBtnStageB => (0x1FFF00000000#45, 0x00A400000000#45)
  | .wrBtnCmd _ _ => (0x1FFF00000000#45, 0x10A800000000#45)
  | .rdBtnCfgA _ => (0x1C1F00000000#45, 0x040000000000#45)
  | .rdBtnCfgB _ => (0x1C1F00000000#45, 0x040400000000#45)
  | .rdBtnRep _ => (0x1C1F00000000#45, 0x041800000000#45)
  | .rdBtnEn => (0x1FFF00000000#45, 0x00AC00000000#45)
  | .wrGrpCfg _ => (0x1FFF00000000#45, 0x108000000000#45)
  | .rdGrpCfg => (0x1FFF00000000#45, 0x008000000000#45)
  | .wrGrpScan => (0x1FFF00000000#45, 0x108400000000#45)
  | .rdGrpScancnt => (0x1FFF00000000#45, 0x008800000000#45)
  | .rdGrpSkiprem => (0x1FFF00000000#45, 0x008C00000000#45)
  | .poll => (0x1FFF00000000#45, 0x009000000000#45)
  | .rdEvqStatus => (0x1FFF00000000#45, 0x009400000000#45)
  | .rdId => (0x1FFF00000000#45, 0x000000000000#45)
  | .rdParams => (0x1FFF00000000#45, 0x000400000000#45)
  | .rdFloor => (0x1FFF00000000#45, 0x000800000000#45)
  | .rdTimelr => (0x1FFF00000000#45, 0x001000000000#45)
  | .rdTimehr => (0x1FFF00000000#45, 0x001400000000#45)
  | .wrAlmInterval _ => (0x1FFF00000000#45, 0x104000000000#45)
  | .wrAlmParam _ => (0x1FFF00000000#45, 0x104400000000#45)
  | .rdAlmInterval => (0x1FFF00000000#45, 0x004000000000#45)
  | .rdAlmParam => (0x1FFF00000000#45, 0x004400000000#45)
  | .almClear _ => (0x1FFF00000003#45, 0x104800000000#45)
  | .almSetOneshot _ _ => (0x1FFF00000003#45, 0x104800000001#45)
  | .almSetRepeating _ _ => (0x1FFF00000003#45, 0x104800000002#45)
  | .almCmdRsvd _ => (0x1FFF00000003#45, 0x104800000003#45)
  | .wrAlmEoi _ => (0x1FFF00000000#45, 0x105000000000#45)
  | .rdAlmStatus => (0x1FFF00000000#45, 0x004C00000000#45)
  | .rdAlmTargetLo _ => (0x1F1F00000000#45, 0x010000000000#45)
  | .rdAlmTargetHi _ => (0x1F1F00000000#45, 0x010400000000#45)
  | .rdAlmIntervalI _ => (0x1F1F00000000#45, 0x010800000000#45)
  | .rdAlmParamI _ => (0x1F1F00000000#45, 0x010C00000000#45)
  | .rdAlmCtrl _ => (0x1F1F00000000#45, 0x011000000000#45)
  | .rdArmed => (0x1FFF00000000#45, 0x003400000000#45)
  | .rdIntr => (0x1FFF00000000#45, 0x002000000000#45)
  | .wrIntr _ => (0x1FFF00000000#45, 0x102000000000#45)
  | .rdInte => (0x1FFF00000000#45, 0x002400000000#45)
  | .wrInte _ => (0x1FFF00000000#45, 0x102400000000#45)
  | .wrInteSet _ => (0x1FFF00000000#45, 0x102800000000#45)
  | .wrInteClr _ => (0x1FFF00000000#45, 0x102C00000000#45)
  | .rdInts => (0x1FFF00000000#45, 0x003000000000#45)
  | .rdInsvc => (0x1FFF00000000#45, 0x003800000000#45)
  | .rdUnmapped _ => (0x100000000000#45, 0x000000000000#45)
  | .wrUnmapped _ => (0x100000000000#45, 0x100000000000#45)

/-- The 49 named rows: all but the two catch-all rows. -/
def namedRows : List (OpWord × OpWord) :=
  [
   (0x1C1F00000000#45, 0x040800000000#45),  -- RD_BTN_RAW_LO
   (0x1C1F00000000#45, 0x040C00000000#45),  -- RD_BTN_RAW_HI
   (0x1C1F00000000#45, 0x041000000000#45),  -- RD_BTN_FILT_LO
   (0x1C1F00000000#45, 0x041400000000#45),  -- RD_BTN_FILT_HI
   (0x1FFF00000000#45, 0x10A000000000#45),  -- WR_BTN_STAGE_A
   (0x1FFF00000000#45, 0x10A400000000#45),  -- WR_BTN_STAGE_B
   (0x1FFF00000000#45, 0x00A000000000#45),  -- RD_BTN_STAGE_A
   (0x1FFF00000000#45, 0x00A400000000#45),  -- RD_BTN_STAGE_B
   (0x1FFF00000000#45, 0x10A800000000#45),  -- WR_BTN_CMD
   (0x1C1F00000000#45, 0x040000000000#45),  -- RD_BTN_CFG_A
   (0x1C1F00000000#45, 0x040400000000#45),  -- RD_BTN_CFG_B
   (0x1C1F00000000#45, 0x041800000000#45),  -- RD_BTN_REP
   (0x1FFF00000000#45, 0x00AC00000000#45),  -- RD_BTN_EN
   (0x1FFF00000000#45, 0x108000000000#45),  -- WR_GRP_CFG
   (0x1FFF00000000#45, 0x008000000000#45),  -- RD_GRP_CFG
   (0x1FFF00000000#45, 0x108400000000#45),  -- WR_GRP_SCAN
   (0x1FFF00000000#45, 0x008800000000#45),  -- RD_GRP_SCANCNT
   (0x1FFF00000000#45, 0x008C00000000#45),  -- RD_GRP_SKIPREM
   (0x1FFF00000000#45, 0x009000000000#45),  -- POLL
   (0x1FFF00000000#45, 0x009400000000#45),  -- RD_EVQ_STATUS
   (0x1FFF00000000#45, 0x000000000000#45),  -- RD_ID
   (0x1FFF00000000#45, 0x000400000000#45),  -- RD_PARAMS
   (0x1FFF00000000#45, 0x000800000000#45),  -- RD_FLOOR
   (0x1FFF00000000#45, 0x001000000000#45),  -- RD_TIMELR
   (0x1FFF00000000#45, 0x001400000000#45),  -- RD_TIMEHR
   (0x1FFF00000000#45, 0x104000000000#45),  -- WR_ALM_INTERVAL
   (0x1FFF00000000#45, 0x104400000000#45),  -- WR_ALM_PARAM
   (0x1FFF00000000#45, 0x004000000000#45),  -- RD_ALM_INTERVAL
   (0x1FFF00000000#45, 0x004400000000#45),  -- RD_ALM_PARAM
   (0x1FFF00000003#45, 0x104800000000#45),  -- ALM_CLEAR
   (0x1FFF00000003#45, 0x104800000001#45),  -- ALM_SET_ONESHOT
   (0x1FFF00000003#45, 0x104800000002#45),  -- ALM_SET_REPEATING
   (0x1FFF00000003#45, 0x104800000003#45),  -- ALM_CMD_RSVD
   (0x1FFF00000000#45, 0x105000000000#45),  -- WR_ALM_EOI
   (0x1FFF00000000#45, 0x004C00000000#45),  -- RD_ALM_STATUS
   (0x1F1F00000000#45, 0x010000000000#45),  -- RD_ALM_TARGET_LO
   (0x1F1F00000000#45, 0x010400000000#45),  -- RD_ALM_TARGET_HI
   (0x1F1F00000000#45, 0x010800000000#45),  -- RD_ALM_INTERVAL_I
   (0x1F1F00000000#45, 0x010C00000000#45),  -- RD_ALM_PARAM_I
   (0x1F1F00000000#45, 0x011000000000#45),  -- RD_ALM_CTRL
   (0x1FFF00000000#45, 0x003400000000#45),  -- RD_ARMED
   (0x1FFF00000000#45, 0x002000000000#45),  -- RD_INTR
   (0x1FFF00000000#45, 0x102000000000#45),  -- WR_INTR
   (0x1FFF00000000#45, 0x002400000000#45),  -- RD_INTE
   (0x1FFF00000000#45, 0x102400000000#45),  -- WR_INTE
   (0x1FFF00000000#45, 0x102800000000#45),  -- WR_INTE_SET
   (0x1FFF00000000#45, 0x102C00000000#45),  -- WR_INTE_CLR
   (0x1FFF00000000#45, 0x003000000000#45),  -- RD_INTS
   (0x1FFF00000000#45, 0x003800000000#45)]  -- RD_INSVC

end Sys2Proof
end

