-- ==== Sys2Proof/Config.lean ====
section
/-! DEFINITION. What an instance of the block fixes (the four parameters of 00_scope.md R7 and the constants of the
identification registers) and the free choice of the environment (00_scope.md R10, R11). -/

namespace Sys2Proof

/-- The parameters the spec leaves open (00_scope.md R7, 92_eei_decisions.md D7). They are fixed for a run; the model takes
them as arguments by holding them in the state, where no step changes them (assumption 1). -/
structure Params where
  /-- `NBTN`, number of button slots. -/
  nbtn : Nat
  /-- `NALM`, number of alarm channels. -/
  nalm : Nat
  /-- `EVQ_DEPTH`, event queue capacity in events. -/
  evqDepth : Nat
  /-- `FLOOR_US`, minimum alarm interval and pull-forward distance, in counter ticks. -/
  floorUs : Word
  deriving DecidableEq, Repr

/-- The legal ranges of 00_scope.md R7: `NBTN` 1..32, `NALM` 1..8, `EVQ_DEPTH` 1..255, `FLOOR_US` 1..2^32-1. -/
abbrev Params.wf (p : Params) : Prop :=
  (1 ≤ p.nbtn ∧ p.nbtn ≤ 32) ∧ (1 ≤ p.nalm ∧ p.nalm ≤ 8) ∧ (1 ≤ p.evqDepth ∧ p.evqDepth ≤ 255) ∧ 1 ≤ p.floorUs.toNat

/-- What one step of the environment asks of the block (00_scope.md R11). `access size word` is a bus transaction of `size`
bytes; a transaction of 4 bytes is an operation word (30_encoding.md R85), any other is refused (20_memory.md R62). -/
inductive EnvAction where
  /-- One tick of the 1 us timebase (44_timer_alarm_scheduler.md R195). -/
  | tick
  /-- One host bus transaction, `HostRead` or `HostWrite` by bit 44 of the word. -/
  | access (size : Nat) (word : OpWord)
  /-- The reset input (70_reset_and_hazards.md R280). -/
  | reset
  deriving DecidableEq, Repr, Inhabited

/-- One step of the environment: what it asks, and the level of every pin at the instant of that step, bit `b` for button `b`
(10_state.md R26; 43_button_group_queue.md R178: no pin changes inside a step). -/
structure EnvStep where
  action : EnvAction
  pins   : Word
  deriving DecidableEq, Repr, Inhabited

/-- FREE VALUE: the step the environment takes where none is scheduled in the state (00_scope.md R11: "The order of steps is
free"; 93_implementation_defined.md items 5 to 7, treatment `any value`). It has no body, so nothing can be proved of which
step it is (assumption 2). -/
opaque Config.environment : Nat → EnvStep

/-- The constant of the `ID` register (30_encoding.md R92). -/
def Config.idWord : Word := 0x44425331#32

/-- `WRAP_LIMIT = 2^64 - 2^34` (44_timer_alarm_scheduler.md R202). -/
def Config.wrapLimit : Nat := 2 ^ 64 - 2 ^ 34

/-- DESIGN CHOICE (assumption 1): the instance `State.reset` is built for, the parameter values of 95_test_vectors.md section 0
(`NALM` 4 is also the reference value of 00_scope.md R7). -/
def Config.reference : Params := { nbtn := 2, nalm := 4, evqDepth := 4, floorUs := 10#32 }

end Sys2Proof
end

