-- ==== Sys2Proof/Machine/State.lean ====
section
/-! DEFINITION. The state of the block as plain data: every element of 10_state.md R23 to R46, the model's own fields for the
environment (parameters, pins, scheduled steps, the value a read returns), the reasons a step can stop, and the state after
reset (10_state.md R54, 70_reset_and_hazards.md R280). -/

namespace Sys2Proof.Machine

/-- `CFG[b]`, the effective configuration of a button, all fields held already clamped (10_state.md R23). -/
structure ButtonCfg where
  /-- `AH`, `activeHigh` -/
  ah : Bool
  /-- `MC`, `multiClicks` -/
  mc : Bool
  /-- `HS`, `historySize`, 10..64 -/
  hs : BitVec 7
  /-- `FS`, `filterSize`, 1..255 -/
  fs : BitVec 8
  /-- `AF`, `actFinishCnt`, 0..HS, and 0 when `MC = 0` -/
  af : BitVec 7
  /-- `R`, `repeatDetectCnt`, 0..255 -/
  r  : BitVec 8
  /-- `RS`, `repeatSkip`, 0..255 -/
  rs : BitVec 8
  /-- `L`, `longDetectCnt`, 0..HS-1 -/
  l  : BitVec 6
  /-- `LL`, `longLongDetectCnt`, 0..HS-1 -/
  ll : BitVec 6
  deriving DecidableEq, Repr

/-- The per-button file (10_state.md R50). -/
structure Button where
  /-- `CFG[b]` (R23) -/
  cfg  : ButtonCfg
  /-- `EN[b]` (R24): the button is in the group's list and is scanned -/
  en   : Bool
  /-- `RAW[b]` (R25): the raw history window, newest sample at bit 0 -/
  raw  : Wide
  /-- `FILT[b]` (R27): the filtered window, newest bit at bit 0 -/
  filt : Wide
  /-- `REP[b]` (R28): the saturating repeat counter -/
  rep  : BitVec 8
  deriving DecidableEq, Repr

/-- `ACTION[i]`, an alarm's callback reduced to what hardware holds (10_state.md R38). The code 3 is never held, so it is no
value of the type. -/
inductive AlarmAction where
  /-- 0, `NONE`: no callback registered, the alarm is destroyed -/
  | none
  /-- 1, `HOST`: host software, reached through the line `irq[i]` -/
  | host
  /-- 2, `SCAN`: the block's own `GroupScan()` -/
  | scan
  deriving DecidableEq, Repr

/-- The per-channel file (10_state.md R50), with the channel's bit of `INTR` and of `INTE` (assumption 6). -/
structure Channel where
  /-- `TARGET[i]` (R35): next-fire target, absolute us -/
  target    : Wide
  /-- `INTERVAL[i]` (R36), held after the floor clamp -/
  interval  : Word
  /-- `PARAM[i]` (R41): the opaque parameter word -/
  param     : Word
  /-- `REPEAT[i]` (R37) -/
  repeating : Bool
  /-- `ACTION[i]` (R38) -/
  action    : AlarmAction
  /-- `ARMED[i]` (R39): the comparator is armed -/
  armed     : Bool
  /-- `INSVC[i]` (R45): a host callback is in flight -/
  insvc     : Bool
  /-- `REARM_OK[i]` (R46): the end-of-service write may rearm or clear the alarm -/
  rearmOk   : Bool
  /-- bit `i` of `INTR` (R43): raw interrupt status -/
  intr      : Bool
  /-- bit `i` of `INTE` (R44): interrupt enable -/
  inte      : Bool
  deriving DecidableEq, Repr

/-- The types of a button event (30_encoding.md R104). -/
inductive EventType where
  | none | single | singleRepeated | multi | long | longLong
  deriving DecidableEq, Repr

/-- The event a scan of one button returns (42_button_event_classifier.md R168), before it is packed into an event word. -/
structure Event where
  kind    : EventType
  button  : Nat
  clicks  : Nat
  repeats : BitVec 8
  deriving DecidableEq, Repr

/-- The state of the block, with the model's own fields for its parameters and its environment. -/
structure State where
  /-- MODEL'S OWN: the instance's parameters (00_scope.md R7), changed by no step (assumption 1) -/
  params         : Params
  /-- `COUNTER` (10_state.md R34) -/
  counter        : Wide
  /-- the per-channel file, channel `i` at index `i`, `NALM` entries (R35 to R39, R41, R43 to R46) -/
  channels       : List Channel
  /-- `ALM_INTERVAL_STG` (R40) -/
  almIntervalStg : Word
  /-- `ALM_PARAM_STG` (R40) -/
  almParamStg    : Word
  /-- `ALM_STATUS` (R42): bit 0 `ERR_ID`, bit 1 `ERR_ARG` -/
  almStatus      : BitVec 2
  /-- the per-button file, button `b` at index `b`, `NBTN` entries (R23 to R25, R27, R28) -/
  buttons        : List Button
  /-- `BTN_STAGE_A` (R29) -/
  btnStageA      : Word
  /-- `BTN_STAGE_B` (R29) -/
  btnStageB      : Word
  /-- `SCAN_SKIP` (R30) -/
  scanSkip       : BitVec 16
  /-- `SKIP_REM` (R31) -/
  skipRem        : BitVec 16
  /-- `SCAN_CNT` (R32) -/
  scanCnt        : Word
  /-- `EVQ` (R33): event words, oldest first -/
  evq            : List Word
  /-- MODEL'S OWN: the pin levels at the instant of the current step, bit `b` = `pin_in[b]` (R26: an input, not state) -/
  pinIn          : Word
  /-- MODEL'S OWN: the steps the environment is to take next, oldest first (00_scope.md R11; assumption 2) -/
  agenda         : List EnvStep
  /-- MODEL'S OWN: how many free draws of `Config.environment` were taken (assumption 2) -/
  draws          : Nat
  /-- MODEL'S OWN: the value that the current step's read returns to the host (30_encoding.md R85), absent for a step that
  is no read (assumption 3) -/
  readData       : Option Word
  deriving DecidableEq, Repr

/-- Why a step stops with a fault. -/
inductive Fault where
  /-- Raised by `step` when the `Settle` that ends a step would need more than `3 * NALM` services. 45_interrupt_arbiter.md
  R246 says that no reachable step needs more, so the bound cuts off nothing of a run. Safe: the model stops where the
  spec's loop would not end (assumption 5). -/
  | settleUnbounded
  deriving DecidableEq, Repr

/-- Why a step has no meaning. -/
inductive Refusal where
  /-- No meaning in this model for the operation. Raised by no arm of `exec`. Safe. -/
  | notModelled (mnemonic : String)
  /-- Raised by `step` for a host access of a size other than 4 bytes or with `addr[1:0] ≠ 0`: the spec's own
  `Refused(SubWordOrMisaligned)` (20_memory.md R62, 60_exceptions.md R260). Safe. -/
  | subWordOrMisaligned
  /-- Raised by `step` for a tick that would make `COUNTER >= WRAP_LIMIT`: the spec's own `Refused(CounterWrapRegion)`
  (44_timer_alarm_scheduler.md R195, R202, 60_exceptions.md R260). Safe. -/
  | counterWrapRegion
  deriving DecidableEq, Repr

/-- What a step or a meaning answers. -/
abbrev Result := Host.Outcome State Fault Refusal

/-- `CFG[b]` at reset: `Clamp(0, 0)` (10_state.md R23, R54). -/
def ButtonCfg.reset : ButtonCfg :=
  { ah := false, mc := false, hs := 10, fs := 1, af := 0, r := 0, rs := 0, l := 0, ll := 0 }

/-- A button at reset (10_state.md R54). -/
def Button.reset : Button := { cfg := ButtonCfg.reset, en := false, raw := 0, filt := 0, rep := 0 }

/-- A channel at reset (10_state.md R54). -/
def Channel.reset : Channel :=
  { target := 0, interval := 0, param := 0, repeating := false, action := .none, armed := false, insvc := false,
    rearmOk := false, intr := false, inte := false }

/-- An instance of the block with the parameters `p`, right after reset (10_state.md R54), nothing scheduled. -/
def State.resetOf (p : Params) : State :=
  { params := p, counter := 0, channels := List.replicate p.nalm Channel.reset, almIntervalStg := 0, almParamStg := 0,
    almStatus := 0, buttons := List.replicate p.nbtn Button.reset, btnStageA := 0, btnStageB := 0, scanSkip := 0,
    skipRem := 0, scanCnt := 0, evq := [], pinIn := 0, agenda := [], draws := 0, readData := none }

/-- The machine right after reset, for the reference instance (assumption 1). -/
def State.reset : State := State.resetOf Config.reference

end Sys2Proof.Machine
end

