-- ==== Sys2Proof/Machine/Operands.lean ====
section
/-! DEFINITION. The layouts of the words that cross the bus: configuration words and their clamp (42_button_event_classifier.md
R154 to R158), event words (30_encoding.md R104), the channel control word (R100), bit masks over channels and buttons
(R95, R107), and the codes of actions and event types. -/

namespace Sys2Proof.Machine

/-- A bit as a 32-bit value (`zext_32`). -/
def bit32 (b : Bool) : Word := (BitVec.ofBool b).setWidth 32

/-- The value whose bit `i` is the `i`-th entry (30_encoding.md R95, R107). -/
def bitmask : List Bool → Word
  | [] => 0#32
  | b :: bs => (bitmask bs <<< 1) ||| bit32 b

/-- The low half of a 64-bit quantity, `[31:0]` (20_memory.md R64). -/
def loHalf (v : Wide) : Word := v.extractLsb' 0 32

/-- The high half of a 64-bit quantity, `[63:32]` (20_memory.md R64). -/
def hiHalf (v : Wide) : Word := v.extractLsb' 32 32

/-! ## Configuration words -/

/-- R154: `historySize` clamped to 10..64. -/
def clampHs (a : Word) : Nat := min (max (a.extractLsb' 8 8).toNat 10) 64

/-- R155: `filterSize` clamped to at least 1. -/
def clampFs (a : Word) : Nat := max (a.extractLsb' 16 8).toNat 1

/-- R156: `actFinishCnt` clamped to at most the clamped `HS`, and 0 without multi-click. -/
def clampAf (a : Word) : Nat := if a.getLsbD 1 then min (a.extractLsb' 24 8).toNat (clampHs a) else 0

/-- R157: a long threshold clamped to at most the clamped `HS` less 1. -/
def clampLong (a : Word) (v : BitVec 8) : Nat := min v.toNat (clampHs a - 1)

/-- R158: the clamp of a configuration word pair. -/
def clamp (a b : Word) : ButtonCfg :=
  { ah := a.getLsbD 0
    mc := a.getLsbD 1
    hs := BitVec.ofNat 7 (clampHs a)
    fs := BitVec.ofNat 8 (clampFs a)
    af := BitVec.ofNat 7 (clampAf a)
    r  := b.extractLsb' 0 8
    rs := b.extractLsb' 8 8
    l  := BitVec.ofNat 6 (clampLong a (b.extractLsb' 16 8))
    ll := BitVec.ofNat 6 (clampLong a (b.extractLsb' 24 8)) }

/-- Configuration word A as read back (30_encoding.md R102; 42_button_event_classifier.md R170). -/
def cfgWordA (c : ButtonCfg) : Word :=
  bit32 c.ah ||| (bit32 c.mc <<< 1) ||| (c.hs.setWidth 32 <<< 8) ||| (c.fs.setWidth 32 <<< 16) ||| (c.af.setWidth 32 <<< 24)

/-- Configuration word B as read back (30_encoding.md R103; 42_button_event_classifier.md R171). -/
def cfgWordB (c : ButtonCfg) : Word :=
  c.r.setWidth 32 ||| (c.rs.setWidth 32 <<< 8) ||| (c.l.setWidth 32 <<< 16) ||| (c.ll.setWidth 32 <<< 24)

/-! ## Event words -/

/-- The type code of an event (30_encoding.md R104). -/
def eventCode : EventType → Word
  | .none => 0#32
  | .single => 1#32
  | .singleRepeated => 2#32
  | .multi => 3#32
  | .long => 4#32
  | .longLong => 5#32

/-- The event word (42_button_event_classifier.md R168). -/
def eventWord (e : Event) : Word :=
  eventCode e.kind ||| (BitVec.ofNat 32 e.button <<< 8) ||| (BitVec.ofNat 32 e.clicks <<< 16)
    ||| (e.repeats.setWidth 32 <<< 24)

/-- The type field of an event word, `[3:0]` (30_encoding.md R104). -/
def eventTypeField (w : Word) : BitVec 4 := w.extractLsb' 0 4

/-! ## Alarm words -/

/-- The code of an action (10_state.md R38). -/
def actionCode : AlarmAction → Word
  | .none => 0#32
  | .host => 1#32
  | .scan => 2#32

/-- The action a registration takes from `data[3:2]` (30_encoding.md R97): 1 is `HOST`, 2 is `SCAN`; the reserved codes never
pass `commandStatus` and name no callback. -/
def actionOf (act : BitVec 2) : AlarmAction :=
  if act = 1#2 then .host else if act = 2#2 then .scan else .none

/-- `ALMi_CTRL` (30_encoding.md R100; 44_timer_alarm_scheduler.md R228). -/
def ctrlWord (c : Channel) : Word :=
  bit32 c.repeating ||| (actionCode c.action <<< 1) ||| (bit32 c.armed <<< 3) ||| (bit32 c.insvc <<< 4)
    ||| (bit32 c.rearmOk <<< 5)

/-- `PARAMS` (30_encoding.md R93; 44_timer_alarm_scheduler.md R204). -/
def paramsWord (p : Params) : Word :=
  BitVec.ofNat 32 p.nbtn ||| (BitVec.ofNat 32 p.nalm <<< 8) ||| (BitVec.ofNat 32 p.evqDepth <<< 16)

end Sys2Proof.Machine
end

