-- ==== Sys2Proof/Machine/Flags.lean ====
section
/-! DEFINITION. The status flags of the block (10_state.md R48): the command status `ALM_STATUS`, the interrupt bit masks and
lines, and the queue-empty condition. -/

namespace Sys2Proof.Machine

/-- `ALM_STATUS` 0: the last command succeeded (30_encoding.md R98). -/
def statusOk : BitVec 2 := 0#2

/-- `ALM_STATUS` 1, `ERR_ID`: InvalidAlarmId (30_encoding.md R98). -/
def statusErrId : BitVec 2 := 1#2

/-- `ALM_STATUS` 2, `ERR_ARG`: reserved op-code or action (30_encoding.md R98). -/
def statusErrArg : BitVec 2 := 2#2

/-- The status that `Validate` gives an `ALM_CMD` write, the id check first (44_timer_alarm_scheduler.md R215). -/
def commandStatus (nalm : Nat) (op act : BitVec 2) (id : BitVec 8) : BitVec 2 :=
  if nalm ≤ id.toNat then statusErrId
  else if op = 3#2 ∨ ((op = 1#2 ∨ op = 2#2) ∧ ¬(act = 1#2 ∨ act = 2#2)) then statusErrArg
  else statusOk

/-- The status of an `ALM_EOI` write, which has only the id check (44_timer_alarm_scheduler.md R222, 60_exceptions.md R267). -/
def eoiStatus (nalm : Nat) (id : BitVec 8) : BitVec 2 := if nalm ≤ id.toNat then statusErrId else statusOk

/-- `Requesting(i)`: a pending, enabled fire; this is `INTS[i]` (45_interrupt_arbiter.md R241). -/
def Channel.requesting (c : Channel) : Bool := c.intr && c.inte

/-- `irq[i]`, the level of the channel's interrupt line (10_state.md R47; 45_interrupt_arbiter.md R242). -/
def Channel.irq (c : Channel) : Bool := c.requesting && c.action == .host

/-- A requesting channel that the block services itself (45_interrupt_arbiter.md R245). -/
def Channel.scanRequest (c : Channel) : Bool := c.requesting && c.action == .scan

/-- The comparator of the channel matches: armed, and `COUNTER >= TARGET` (44_timer_alarm_scheduler.md R217). -/
def Channel.due (now : Wide) (c : Channel) : Bool := c.armed && decide (c.target ≤ now)

/-- The line `irq[i]` of the block after a step (45_interrupt_arbiter.md R242). -/
def State.irq (s : State) (i : Nat) : Bool :=
  match s.channels[i]? with
  | some c => c.irq
  | none => false

/-- One bit of every channel as a bit mask register (30_encoding.md R95). -/
def channelMask (f : Channel → Bool) (s : State) : Word := bitmask (s.channels.map f)

/-- `EN[b]` as a bit mask (30_encoding.md R107). -/
def enableMask (s : State) : Word := bitmask (s.buttons.map Button.en)

/-- The queue-empty condition (10_state.md R48). -/
def State.queueEmpty (s : State) : Bool := s.evq.isEmpty

end Sys2Proof.Machine
end

