-- ==== Sys2Proof/Machine/Window.lean ====
section
/-! DEFINITION. The history window primitives (40_debounce_shift_register.md R120 to R128). A window is a 64-bit value with
a width `hs`; its bit 0 is the newest sample. -/

namespace Sys2Proof.Machine

/-- `ones(n) = 2^n - 1`, cut to 64 bits (00_scope.md R12). -/
def ones (n : Nat) : Wide := BitVec.ofNat 64 (2 ^ n - 1)

/-- A bit as a 64-bit value (`zext_64`). -/
def bit64 (b : Bool) : Wide := (BitVec.ofBool b).setWidth 64

/-- `popcount(v)`: the number of 1 bits (00_scope.md R12). -/
def popcount (v : Wide) : Nat := (List.range 64).countP fun i => v.getLsbD i

/-- R121: shift left by one, put the new bit at index 0, discard the bit that falls off the window's top. -/
def push (w : Wide) (hs : Nat) (b : Bool) : Wide := ((w <<< 1) ||| bit64 b) &&& ones hs

/-- R122: bit `i` of the window, 0 at or above its width. -/
def test (w : Wide) (hs : Nat) (i : Nat) : Bool := decide (i < hs) && w.getLsbD i

/-- R123: the window with bit `i` replaced; a bit outside the window leaves it unchanged. -/
def setBit (w : Wide) (hs : Nat) (i : Nat) (b : Bool) : Wide :=
  if i < hs then ((w &&& ~~~(1#64 <<< i)) ||| (bit64 b <<< i)) &&& ones hs else w

/-- R124: the all-true window. -/
def fill (hs : Nat) : Wide := ones hs

/-- How many of the bits `i`, `i+1`, … of `w`, at most `n` of them, equal `b` before the first that does not. -/
def runFrom (b : Bool) (w : Wide) : Nat → Nat → Nat
  | 0, _ => 0
  | n + 1, i => if w.getLsbD i = b then runFrom b w n (i + 1) + 1 else 0

/-- R125: count of contiguous 1 bits starting at index 0, at most `hs`. -/
def trailingOnes (w : Wide) (hs : Nat) : Nat := runFrom true w hs 0

/-- R126: count of contiguous 0 bits starting at index 0, at most `hs`. -/
def trailingZeros (w : Wide) (hs : Nat) : Nat := runFrom false w hs 0

/-- R127: the pairs `(i, i+1)` inside the window with bit `i` 1 and bit `i+1` 0; at most 1 of them if `singleOnly`. -/
def risingEdgeCount (w : Wide) (hs : Nat) (singleOnly : Bool) : Nat :=
  let c := popcount (w &&& ~~~(w >>> 1) &&& ones (hs - 1))
  if singleOnly then min c 1 else c

/-- R128: the newest `n` bits are all 1; never so for more bits than the window has. -/
def lowAllOnes (w : Wide) (hs n : Nat) : Bool := decide (n ≤ hs) && w &&& ones n == ones n

/-- R128: the newest `n` bits are all 0, bits outside the window reading 0. -/
def lowAllZeros (w : Wide) (hs n : Nat) : Bool := w &&& ones (min n hs) == 0#64

/-! The filter and the gate (41_majority_filter.md). -/

/-- R136: the new filtered bit: 1 on `fs` unanimous pressed samples, 0 on `fs` unanimous released samples, otherwise the
previous filtered bit. -/
def filterBit (raw filt : Wide) (hs fs : Nat) : Bool :=
  if lowAllOnes raw hs fs then true else if lowAllZeros raw hs fs then false else test filt hs 0

/-- R137: the filtered window takes the new bit by a push. -/
def filterUpdate (raw filt : Wide) (hs fs : Nat) : Wide := push filt hs (filterBit raw filt hs fs)

/-- R140: the action-finished gate. -/
def gate (filt : Wide) (hs af : Nat) : Bool := af == 0 || lowAllZeros filt hs af

end Sys2Proof.Machine
end

