-- ==== Sys2Proof/Machine/Ops.lean ====
section
/-! DEFINITION. The named operations over the state that the meanings and the step share: access to the register files, the
scan of a button and of the group (42_button_event_classifier.md, 43_button_group_queue.md), alarm registration, fire and
rearm (44_timer_alarm_scheduler.md), the block's side of interrupt entry and return, `Settle` (45_interrupt_arbiter.md), the
tick and the reset, and how a step takes the environment's next step. -/

namespace Sys2Proof.Machine

/-! ## The register files -/

/-- The read of a step returns `v` to the host (30_encoding.md R85). -/
def State.respond (v : Word) (s : State) : State := { s with readData := some v }

/-- A read that changes nothing but the value it returns (20_memory.md R67). -/
def answer (v : Word) (s : State) : Result := .next (s.respond v)

/-- Button `b` of the block; none for `b >= NBTN` (30_encoding.md R89). -/
def State.button? (s : State) (b : Nat) : Option Button := if b < s.params.nbtn then s.buttons[b]? else none

/-- Channel `i` of the block; none for `i >= NALM` (30_encoding.md R89). -/
def State.channel? (s : State) (i : Nat) : Option Channel := if i < s.params.nalm then s.channels[i]? else none

/-- A view of button `b`; 0 for `b >= NBTN` (20_memory.md R69). -/
def State.buttonView (s : State) (b : Nat) (f : Button → Word) : Word :=
  match s.button? b with
  | some x => f x
  | none => 0#32

/-- A view of channel `i`; 0 for `i >= NALM` (20_memory.md R69). -/
def State.channelView (s : State) (i : Nat) (f : Channel → Word) : Word :=
  match s.channel? i with
  | some c => f c
  | none => 0#32

/-- Rewrite button `b`. -/
def State.modifyButton (s : State) (b : Nat) (f : Button → Button) : State := { s with buttons := s.buttons.modify b f }

/-- Rewrite channel `i`. -/
def State.modifyChannel (s : State) (i : Nat) (f : Channel → Channel) : State :=
  { s with channels := s.channels.modify i f }

/-- Rewrite every channel, each with its index. -/
def State.mapChannels (s : State) (f : Nat → Channel → Channel) : State := { s with channels := s.channels.mapIdx f }

/-- Write `ALM_STATUS`. -/
def State.setAlmStatus (s : State) (v : BitVec 2) : State := { s with almStatus := v }

/-! ## The scan of one button (42_button_event_classifier.md) -/

/-- R162, step 3: the stored repeat counter after the scan and the repeat count the scan reports. -/
def repeatDetect (c : ButtonCfg) (pushRun : Nat) (phase : Word) (rep : BitVec 8) : BitVec 8 × BitVec 8 :=
  if c.l = 0#6 ∧ c.ll = 0#6 ∧ phase.toNat % (c.rs.toNat + 1) = 0 then
    if 0 < c.r.toNat ∧ c.r.toNat ≤ pushRun then
      (BitVec.ofNat 8 (min (rep.toNat + 1) 255), BitVec.ofNat 8 (min (rep.toNat + 1) 255))
    else (0#8, 0#8)
  else (rep, 0#8)

/-- R163, step 4: the run of pressed scans equals a threshold; only without repeat detection, and a threshold of 0 is off
(90_conflicts.md C1). -/
def thresholdHit (c : ButtonCfg) (pushRun threshold : Nat) : Bool :=
  decide (c.r = 0#8) && decide (0 < threshold) && decide (pushRun = threshold)

/-- R167, step 8: the event's type, first match wins. -/
def selectEvent (rep : BitVec 8) (edges : Nat) (longFlag longLongFlag : Bool) : EventType :=
  if 0 < rep.toNat then .singleRepeated
  else if 1 < edges then .multi
  else if edges = 1 then .single
  else if longFlag then .long
  else if longLongFlag then .longLong
  else .none

/-- R161: the whole pipeline of one enabled button `b`, whose pin has the level `pin`. -/
def scanButton (pin : Bool) (phase : Word) (b : Nat) (x : Button) : Button × Event :=
  let hs := x.cfg.hs.toNat
  -- steps 1 and 2 (R160)
  let raw := push x.raw hs (pin == x.cfg.ah)
  let pushRun := trailingOnes raw hs
  -- step 3 (R162)
  let rep := repeatDetect x.cfg pushRun phase x.rep
  -- step 4 (R163, R164)
  let longFlag := thresholdHit x.cfg pushRun x.cfg.l.toNat
  let longLongFlag := thresholdHit x.cfg pushRun x.cfg.ll.toNat
  let filt4 := if longFlag then fill hs else x.filt
  -- step 5 (41_majority_filter.md R137)
  let filt5 := filterUpdate raw filt4 hs x.cfg.fs.toNat
  -- steps 6 and 7 (41_majority_filter.md R140, R166)
  let edges := if gate filt5 hs x.cfg.af.toNat then risingEdgeCount filt5 hs (!x.cfg.mc) else 0
  let filt7 := if 0 < edges then fill hs else filt5
  -- step 8 (R167, R168)
  ({ x with raw := raw, filt := filt7, rep := rep.1 },
   { kind := selectEvent rep.2 edges longFlag longLongFlag, button := b, clicks := edges, repeats := rep.2 })

/-! ## The group scan and the event queue (43_button_group_queue.md) -/

/-- R180: append at the tail, or drop the new event silently when the queue is full. -/
def enqueue (depth : Nat) (q : List Word) (w : Word) : List Word := if q.length < depth then q ++ [w] else q

/-- R175: an event other than None is queued. -/
def offer (depth : Nat) (q : List Word) (e : Event) : List Word :=
  if e.kind = .none then q else enqueue depth q (eventWord e)

/-- R175, R177: scan the enabled buttons in ascending index, the first of the list being button `b`. -/
def scanButtons (pins phase : Word) (depth : Nat) : Nat → List Button → List Word → List Button × List Word
  | _, [], q => ([], q)
  | b, x :: xs, q =>
    if x.en then
      let r := scanButton (pins.getLsbD b) phase b x
      let rest := scanButtons pins phase depth (b + 1) xs (offer depth q r.2)
      (r.1 :: rest.1, rest.2)
    else
      let rest := scanButtons pins phase depth (b + 1) xs q
      (x :: rest.1, rest.2)

/-- R175: one scan of the group: skipped while `SKIP_REM` is not 0, otherwise every enabled button is classified. -/
def groupScan (s : State) : State :=
  if s.skipRem ≠ 0#16 then { s with skipRem := s.skipRem - 1#16 }
  else
    let r := scanButtons s.pinIn s.scanCnt s.params.evqDepth 0 s.buttons s.evq
    { s with buttons := r.1, evq := r.2, scanCnt := s.scanCnt + 1#32 }

/-- R159: construct a button from the staged words: clamp them, clear its windows and its repeat counter. -/
def constructButton (a b : Word) (en : Bool) (_ : Button) : Button :=
  { cfg := clamp a b, en := en, raw := 0, filt := 0, rep := 0 }

/-! ## Alarm registration, fire and rearm (44_timer_alarm_scheduler.md) -/

/-- R212: the floor clamp of a staged interval. -/
def floorClamp (floor staged : Word) : Word := if staged < floor then floor else staged

/-- R212: the target of a registration, pulled forward if it has already passed. -/
def registerTarget (floor ival : Word) (now : Wide) : Wide :=
  if now + ival.setWidth 64 ≤ now then now + floor.setWidth 64 else now + ival.setWidth 64

/-- R212: the channel a registration leaves; `INSVC` is not touched. -/
def registerChannel (floor staged param : Word) (now : Wide) (rep : Bool) (act : AlarmAction) (c : Channel) : Channel :=
  { c with
    interval  := floorClamp floor staged
    param     := param
    repeating := rep
    action    := act
    target    := registerTarget floor (floorClamp floor staged) now
    intr      := false
    rearmOk   := false
    armed     := true
    inte      := true }

/-- R212, `Register(i, op, act)`: from the staging registers, at `now = COUNTER`. -/
def register (i : Nat) (rep : Bool) (act : AlarmAction) (s : State) : State :=
  s.modifyChannel i (registerChannel s.params.floorUs s.almIntervalStg s.almParamStg s.counter rep act)

/-- R210: the channel a clear leaves. -/
def clearChannel (c : Channel) : Channel :=
  { c with action := .none, armed := false, inte := false, intr := false, rearmOk := false }

/-- R210, R213 to R216: an `ALM_CMD` write: `Validate`, and the command's own effect if it passes. -/
def almCommand (op act : BitVec 2) (id : BitVec 8) (effect : State → State) (s : State) : State :=
  if commandStatus s.params.nalm op act id = statusOk then effect (s.setAlmStatus statusOk)
  else s.setAlmStatus (commandStatus s.params.nalm op act id)

/-- R217: a comparator that matches sets the status bit and disarms the channel. -/
def fireChannel (now : Wide) (c : Channel) : Channel :=
  if c.due now then { c with intr := true, armed := false } else c

/-- R217, `FireAll()`: every comparator, at `COUNTER`. -/
def fireAll (s : State) : State := { s with channels := s.channels.map (fireChannel s.counter) }

/-- R220: the next target of a repeating alarm, phase-locked, pulled forward when it elapsed by more than the floor. -/
def rearmTarget (floor ival : Word) (now target : Wide) : Wide :=
  if target + ival.setWidth 64 < now ∧ floor.setWidth 64 < now - (target + ival.setWidth 64) then now + floor.setWidth 64
  else target + ival.setWidth 64

/-- R220: the channel a rearm leaves: the next period of a repeating alarm, or a one-shot alarm freed. -/
def rearmChannel (floor : Word) (now : Wide) (c : Channel) : Channel :=
  if c.repeating then { c with target := rearmTarget floor c.interval now c.target, armed := true }
  else { c with action := .none, armed := false, inte := false }

/-- R220, `Rearm(i)`. -/
def rearm (i : Nat) (s : State) : State := s.modifyChannel i (rearmChannel s.params.floorUs s.counter)

/-! ## Interrupt entry and return (45_interrupt_arbiter.md R240, 60_exceptions.md R263, R264) -/

/-- R240: the acknowledge that starts a service. -/
def ackChannel (c : Channel) : Channel := { c with intr := false }

/-- R240: a host callback starts: it runs on the host until its end-of-service write. -/
def enterHostService (c : Channel) : Channel := { c with insvc := true, rearmOk := true }

/-- R240, `Service(i)`: interrupt entry on the block's side: acknowledge, then the callback of the channel's action. -/
def service (i : Nat) (s : State) : State :=
  match s.channels[i]? with
  | none => s
  | some c =>
    match c.action with
    | .none => s.modifyChannel i ackChannel
    | .host => (s.modifyChannel i ackChannel).modifyChannel i enterHostService
    | .scan => rearm i (groupScan (s.modifyChannel i ackChannel))

/-- R222: the end of a host service; a rearm follows if the registration still stands. -/
def leaveHostService (floor : Word) (now : Wide) (c : Channel) : Channel :=
  if c.insvc then
    if c.rearmOk then rearmChannel floor now { c with insvc := false, rearmOk := false } else { c with insvc := false }
  else c

/-- R222: the `ALM_EOI` write, the block's return from interrupt (60_exceptions.md R264). -/
def endOfService (id : BitVec 8) (s : State) : State :=
  if eoiStatus s.params.nalm id = statusOk then
    (s.setAlmStatus statusOk).modifyChannel id.toNat (leaveHostService s.params.floorUs s.counter)
  else s.setAlmStatus (eoiStatus s.params.nalm id)

/-- R232: service channel `i` if it is acknowledged and pending. -/
def acknowledgeOne (mask : BitVec 8) (s : State) (i : Nat) : State :=
  match s.channels[i]? with
  | some c => if mask.getLsbD i && c.intr then service i s else s
  | none => s

/-- R232: service every acknowledged pending channel, ascending. -/
def acknowledge (mask : BitVec 8) (s : State) : State := (List.range s.params.nalm).foldl (acknowledgeOne mask) s

/-! ## Settle (45_interrupt_arbiter.md R245) -/

/-- R245: the lowest channel that requests and whose callback is the block's scan. -/
def nextScanRequest (s : State) : Option Nat := s.channels.findIdx? Channel.scanRequest

/-- R245: the loop of `Settle`, cut off after `n` rounds of comparators (each but the last with one service). -/
def settleLoop : Nat → State → Option State
  | 0, _ => none
  | n + 1, s =>
    match nextScanRequest (fireAll s) with
    | none => some (fireAll s)
    | some r => settleLoop n (service r (fireAll s))

/-- R245, `Settle()`. R246: at most `3 * NALM` services, so `3 * NALM + 1` rounds (assumption 5). -/
def settle (s : State) : Option State := settleLoop (3 * s.params.nalm + 1) s

/-- The end of a `Tick`, `HostRead` or `HostWrite` step (00_scope.md R11). -/
def finish : Result → Result
  | .next s =>
    match settle s with
    | some t => .next t
    | none => .fault .settleUnbounded
  | .fault f => .fault f
  | .refused r => .refused r

/-! ## Tick and reset -/

/-- 44_timer_alarm_scheduler.md R195: the counter's own effect of a tick, refused at the wrap region (R202). -/
def tick (s : State) : Result :=
  if Config.wrapLimit ≤ s.counter.toNat + 1 then .refused .counterWrapRegion
  else .next { s with counter := s.counter + 1#64 }

/-- 70_reset_and_hazards.md R280: every element of the block to its reset value. The instance's parameters, the pins and what
is scheduled are not the block's state and stay. -/
def resetBlock (s : State) : State :=
  { State.resetOf s.params with pinIn := s.pinIn, agenda := s.agenda, draws := s.draws }

/-! ## The environment's next step (00_scope.md R10, R11; assumption 2) -/

/-- A step begins: the pins take their levels, and no read has returned a value yet. -/
def State.begin (s : State) (pins : Word) : State := { s with pinIn := pins, readData := none }

/-- The environment's next step and the state in which the block meets it: the oldest scheduled step or, where none is
scheduled, the free draw. -/
def nextEnvStep (s : State) : EnvAction × State :=
  match s.agenda with
  | e :: rest => (e.action, { s with agenda := rest }.begin e.pins)
  | [] => ((Config.environment s.draws).action, { s with draws := s.draws + 1 }.begin (Config.environment s.draws).pins)

end Sys2Proof.Machine
end

