-- ==== Sys2Proof/Machine/Bus.lean ====
section
/-! DEFINITION. What a host bus transaction asks of the block: an aligned access of 4 bytes is an operation word, any other is
refused (20_memory.md R62, R65; 60_exceptions.md R260). -/

namespace Sys2Proof.Machine

/-- The operation a transaction of `size` bytes carries. Refusal takes precedence over every register meaning
(60_exceptions.md R267). -/
def fetchOperation (size : Nat) (word : OpWord) : Except Refusal Instr :=
  if size = 4 then
    match decode word with
    | .ok i => .ok i
    | .error _ => .error .subWordOrMisaligned
  else .error .subWordOrMisaligned

/-- The transaction that carries the bits `w` of a row of opcode_table.json, its bits at `nbits` and above 0. -/
def tableAccess (nbits w : Nat) : EnvAction := .access 4 (BitVec.ofNat 45 (w % 2 ^ nbits))

end Sys2Proof.Machine
end

