-- ==== Sys2Proof/Machine/Arbiter.lean ====
section
/-! DEFINITION. The interrupt bit masks and the acknowledge (45_interrupt_arbiter.md R231 to R238). Bits of a written mask at
`NALM` and above reach no channel (30_encoding.md R95). -/

namespace Sys2Proof.Machine

/-- R231 -/
def execRdIntr (s : State) : Result := answer (channelMask Channel.intr s) s

/-- R232: acknowledge and service, ascending. -/
def execWrIntr (mask : BitVec 8) (s : State) : Result := .next (acknowledge mask s)

/-- R236 -/
def execRdInte (s : State) : Result := answer (channelMask Channel.inte s) s

/-- R233: a plain write of every enable bit. -/
def execWrInte (mask : BitVec 8) (s : State) : Result :=
  .next (s.mapChannels fun i c => { c with inte := mask.getLsbD i })

/-- R234: atomic bit set. -/
def execWrInteSet (mask : BitVec 8) (s : State) : Result :=
  .next (s.mapChannels fun i c => { c with inte := c.inte || mask.getLsbD i })

/-- R235: atomic bit clear. -/
def execWrInteClr (mask : BitVec 8) (s : State) : Result :=
  .next (s.mapChannels fun i c => { c with inte := c.inte && !mask.getLsbD i })

/-- R237: `INTR & INTE`. -/
def execRdInts (s : State) : Result := answer (channelMask Channel.intr s &&& channelMask Channel.inte s) s

/-- R238 -/
def execRdInsvc (s : State) : Result := answer (channelMask Channel.insvc s) s

end Sys2Proof.Machine
end

