-- ==== Sys2Proof/Machine/Classifier.lean ====
section
/-! DEFINITION. Staging, construction and the host reads of a button (42_button_event_classifier.md R150 to R153, R159, R170 to
R173). -/

namespace Sys2Proof.Machine

/-- R150: the staged word is stored as written. -/
def execWrBtnStageA (data : Word) (s : State) : Result := .next { s with btnStageA := data }

/-- R151 -/
def execWrBtnStageB (data : Word) (s : State) : Result := .next { s with btnStageB := data }

/-- R152 -/
def execRdBtnStageA (s : State) : Result := answer s.btnStageA s

/-- R153 -/
def execRdBtnStageB (s : State) : Result := answer s.btnStageB s

/-- R159: construct button `index` from the staged words; ignored for `index >= NBTN` (30_encoding.md R108 item 5). -/
def execWrBtnCmd (index : BitVec 8) (en : Bool) (s : State) : Result :=
  if s.params.nbtn ≤ index.toNat then .next s
  else .next (s.modifyButton index.toNat (constructButton s.btnStageA s.btnStageB en))

/-- R170 -/
def execRdBtnCfgA (b : BitVec 5) (s : State) : Result := answer (s.buttonView b.toNat fun x => cfgWordA x.cfg) s

/-- R171 -/
def execRdBtnCfgB (b : BitVec 5) (s : State) : Result := answer (s.buttonView b.toNat fun x => cfgWordB x.cfg) s

/-- R172 -/
def execRdBtnRep (b : BitVec 5) (s : State) : Result := answer (s.buttonView b.toNat fun x => x.rep.setWidth 32) s

/-- R173 -/
def execRdBtnEn (s : State) : Result := answer (enableMask s) s

end Sys2Proof.Machine
end

