-- ==== Sys2Proof/Machine/Group.lean ====
section
/-! DEFINITION. The group registers and the event queue (43_button_group_queue.md R182 to R188). -/

namespace Sys2Proof.Machine

/-- R183: (re)configure the scan-skip gate; the scan count restarts at 0. -/
def execWrGrpCfg (n : BitVec 16) (s : State) : Result := .next { s with scanSkip := n, skipRem := n, scanCnt := 0#32 }

/-- R184 -/
def execRdGrpCfg (s : State) : Result := answer (s.scanSkip.setWidth 32) s

/-- R185: run one scan. -/
def execWrGrpScan (s : State) : Result := .next (groupScan s)

/-- R186 -/
def execRdGrpScancnt (s : State) : Result := answer s.scanCnt s

/-- R187 -/
def execRdGrpSkiprem (s : State) : Result := answer (s.skipRem.setWidth 32) s

/-- R182: dequeue the head event, or return 0, "no event". -/
def execPoll (s : State) : Result :=
  match s.evq with
  | [] => answer 0#32 s
  | e :: rest => answer e { s with evq := rest }

/-- R188 -/
def execRdEvqStatus (s : State) : Result := answer (BitVec.ofNat 32 s.evq.length) s

end Sys2Proof.Machine
end

