-- ==== Sys2Proof/Machine/History.lean ====
section
/-! DEFINITION. The host reads of the history windows (40_debounce_shift_register.md R130 to R133). -/

namespace Sys2Proof.Machine

/-- R130: `RAW[b][31:0]`, 0 for `b >= NBTN`. -/
def execRdBtnRawLo (b : BitVec 5) (s : State) : Result := answer (s.buttonView b.toNat fun x => loHalf x.raw) s

/-- R131: `RAW[b][63:32]`, 0 for `b >= NBTN`. -/
def execRdBtnRawHi (b : BitVec 5) (s : State) : Result := answer (s.buttonView b.toNat fun x => hiHalf x.raw) s

/-- R132: `FILT[b][31:0]`, 0 for `b >= NBTN`. -/
def execRdBtnFiltLo (b : BitVec 5) (s : State) : Result := answer (s.buttonView b.toNat fun x => loHalf x.filt) s

/-- R133: `FILT[b][63:32]`, 0 for `b >= NBTN`. -/
def execRdBtnFiltHi (b : BitVec 5) (s : State) : Result := answer (s.buttonView b.toNat fun x => hiHalf x.filt) s

end Sys2Proof.Machine
end

