-- ==== Sys2Proof/Machine/Scheduler.lean ====
section
/-! DEFINITION. Identification, the clock, the alarm commands and the channel reads (44_timer_alarm_scheduler.md R196, R197,
R203 to R210, R213, R214, R216, R222 to R229). -/

namespace Sys2Proof.Machine

/-- R203 -/
def execRdId (s : State) : Result := answer Config.idWord s

/-- R204 -/
def execRdParams (s : State) : Result := answer (paramsWord s.params) s

/-- R205 -/
def execRdFloor (s : State) : Result := answer s.params.floorUs s

/-- R196: `COUNTER[31:0]`, no latch. -/
def execRdTimelr (s : State) : Result := answer (loHalf s.counter) s

/-- R197: `COUNTER[63:32]`, no latch. -/
def execRdTimehr (s : State) : Result := answer (hiHalf s.counter) s

/-- R208: stored unclamped. -/
def execWrAlmInterval (data : Word) (s : State) : Result := .next { s with almIntervalStg := data }

/-- R209 -/
def execWrAlmParam (data : Word) (s : State) : Result := .next { s with almParamStg := data }

/-- R206 -/
def execRdAlmInterval (s : State) : Result := answer s.almIntervalStg s

/-- R207 -/
def execRdAlmParam (s : State) : Result := answer s.almParamStg s

/-- R210: the action bits are ignored. -/
def execAlmClear (id : BitVec 8) (s : State) : Result :=
  .next (almCommand 0#2 0#2 id (fun t => t.modifyChannel id.toNat clearChannel) s)

/-- R213 -/
def execAlmSetOneshot (act : BitVec 2) (id : BitVec 8) (s : State) : Result :=
  .next (almCommand 1#2 act id (register id.toNat false (actionOf act)) s)

/-- R214 -/
def execAlmSetRepeating (act : BitVec 2) (id : BitVec 8) (s : State) : Result :=
  .next (almCommand 2#2 act id (register id.toNat true (actionOf act)) s)

/-- R216: sets `ALM_STATUS` only; the reserved op never passes `Validate`. -/
def execAlmCmdRsvd (id : BitVec 8) (s : State) : Result := .next (almCommand 3#2 0#2 id (fun t => t) s)

/-- R222 -/
def execWrAlmEoi (id : BitVec 8) (s : State) : Result := .next (endOfService id s)

/-- R223 -/
def execRdAlmStatus (s : State) : Result := answer (s.almStatus.setWidth 32) s

/-- R224 -/
def execRdAlmTargetLo (i : BitVec 3) (s : State) : Result := answer (s.channelView i.toNat fun c => loHalf c.target) s

/-- R225 -/
def execRdAlmTargetHi (i : BitVec 3) (s : State) : Result := answer (s.channelView i.toNat fun c => hiHalf c.target) s

/-- R226 -/
def execRdAlmIntervalI (i : BitVec 3) (s : State) : Result := answer (s.channelView i.toNat fun c => c.interval) s

/-- R227 -/
def execRdAlmParamI (i : BitVec 3) (s : State) : Result := answer (s.channelView i.toNat fun c => c.param) s

/-- R228 -/
def execRdAlmCtrl (i : BitVec 3) (s : State) : Result := answer (s.channelView i.toNat ctrlWord) s

/-- R229 -/
def execRdArmed (s : State) : Result := answer (channelMask Channel.armed s) s

end Sys2Proof.Machine
end

