-- ==== Sys2Proof/Machine/Unmapped.lean ====
section
/-! DEFINITION. Accesses to addresses that the register map does not list (20_memory.md R69, 30_encoding.md R108, R109). -/

namespace Sys2Proof.Machine

/-- R69: the read returns 0 and changes no state. -/
def execRdUnmapped (_ : Addr) (s : State) : Result := answer 0#32 s

/-- R69: the write is ignored. -/
def execWrUnmapped (_ : Addr) (s : State) : Result := .next s

end Sys2Proof.Machine
end

