-- ==== Sys2Proof/Machine/Dispatch.lean ====
section
/-! DEFINITION. The meaning of every operation: the register access of its own. The `Settle` that ends every step
(45_interrupt_arbiter.md R245) is the step's (Machine/Step.lean). -/

namespace Sys2Proof.Machine

def exec (i : Instr) (s : State) : Host.Outcome State Fault Refusal :=
  match i with
  | .rdBtnRawLo b => Sys2Proof.Machine.execRdBtnRawLo b s
  | .rdBtnRawHi b => Sys2Proof.Machine.execRdBtnRawHi b s
  | .rdBtnFiltLo b => Sys2Proof.Machine.execRdBtnFiltLo b s
  | .rdBtnFiltHi b => Sys2Proof.Machine.execRdBtnFiltHi b s
  | .wrBtnStageA data => Sys2Proof.Machine.execWrBtnStageA data s
  | .wrBtnStageB data => Sys2Proof.Machine.execWrBtnStageB data s
  | .rdBtnStageA => Sys2Proof.Machine.execRdBtnStageA s
  | .rdBtnStageB => Sys2Proof.Machine.execRdBtnStageB s
  | .wrBtnCmd index en => Sys2Proof.Machine.execWrBtnCmd index en s
  | .rdBtnCfgA b => Sys2Proof.Machine.execRdBtnCfgA b s
  | .rdBtnCfgB b => Sys2Proof.Machine.execRdBtnCfgB b s
  | .rdBtnRep b => Sys2Proof.Machine.execRdBtnRep b s
  | .rdBtnEn => Sys2Proof.Machine.execRdBtnEn s
  | .wrGrpCfg n => Sys2Proof.Machine.execWrGrpCfg n s
  | .rdGrpCfg => Sys2Proof.Machine.execRdGrpCfg s
  | .wrGrpScan => Sys2Proof.Machine.execWrGrpScan s
  | .rdGrpScancnt => Sys2Proof.Machine.execRdGrpScancnt s
  | .rdGrpSkiprem => Sys2Proof.Machine.execRdGrpSkiprem s
  | .poll => Sys2Proof.Machine.execPoll s
  | .rdEvqStatus => Sys2Proof.Machine.execRdEvqStatus s
  | .rdId => Sys2Proof.Machine.execRdId s
  | .rdParams => Sys2Proof.Machine.execRdParams s
  | .rdFloor => Sys2Proof.Machine.execRdFloor s
  | .rdTimelr => Sys2Proof.Machine.execRdTimelr s
  | .rdTimehr => Sys2Proof.Machine.execRdTimehr s
  | .wrAlmInterval data => Sys2Proof.Machine.execWrAlmInterval data s
  | .wrAlmParam data => Sys2Proof.Machine.execWrAlmParam data s
  | .rdAlmInterval => Sys2Proof.Machine.execRdAlmInterval s
  | .rdAlmParam => Sys2Proof.Machine.execRdAlmParam s
  | .almClear id => Sys2Proof.Machine.execAlmClear id s
  | .almSetOneshot act id => Sys2Proof.Machine.execAlmSetOneshot act id s
  | .almSetRepeating act id => Sys2Proof.Machine.execAlmSetRepeating act id s
  | .almCmdRsvd id => Sys2Proof.Machine.execAlmCmdRsvd id s
  | .wrAlmEoi id => Sys2Proof.Machine.execWrAlmEoi id s
  | .rdAlmStatus => Sys2Proof.Machine.execRdAlmStatus s
  | .rdAlmTargetLo j => Sys2Proof.Machine.execRdAlmTargetLo j s
  | .rdAlmTargetHi j => Sys2Proof.Machine.execRdAlmTargetHi j s
  | .rdAlmIntervalI j => Sys2Proof.Machine.execRdAlmIntervalI j s
  | .rdAlmParamI j => Sys2Proof.Machine.execRdAlmParamI j s
  | .rdAlmCtrl j => Sys2Proof.Machine.execRdAlmCtrl j s
  | .rdArmed => Sys2Proof.Machine.execRdArmed s
  | .rdIntr => Sys2Proof.Machine.execRdIntr s
  | .wrIntr mask => Sys2Proof.Machine.execWrIntr mask s
  | .rdInte => Sys2Proof.Machine.execRdInte s
  | .wrInte mask => Sys2Proof.Machine.execWrInte mask s
  | .wrInteSet mask => Sys2Proof.Machine.execWrInteSet mask s
  | .wrInteClr mask => Sys2Proof.Machine.execWrInteClr mask s
  | .rdInts => Sys2Proof.Machine.execRdInts s
  | .rdInsvc => Sys2Proof.Machine.execRdInsvc s
  | .rdUnmapped addr => Sys2Proof.Machine.execRdUnmapped addr s
  | .wrUnmapped addr => Sys2Proof.Machine.execWrUnmapped addr s

end Sys2Proof.Machine
end

