-- ==== Sys2Proof/Machine/Step.lean ====
section
/-! DEFINITION. One step of the block (00_scope.md R11): exactly one of `Tick`, `HostRead`, `HostWrite` and `Reset`, atomic;
all but `Reset` end with `Settle`. -/

namespace Sys2Proof.Machine

/-- `HostRead` and `HostWrite`: the operation the transaction carries, and then `Settle`; or the refusal. -/
def access (size : Nat) (word : OpWord) (s : State) : Result :=
  match fetchOperation size word with
  | .ok i => finish (exec i s)
  | .error r => .refused r

/-- One step, of the kind the environment asks (00_scope.md R11). -/
def runStep (a : EnvAction) (s : State) : Result :=
  match a with
  | .tick => finish (tick s)
  | .access size word => access size word s
  | .reset => .next (resetBlock s)

/-- One step of the block under its environment. -/
def step (s : State) : Host.Outcome State Fault Refusal := runStep (nextEnvStep s).1 (nextEnvStep s).2

/-- `s` with the operation word `w` (its bits at `nbits` and above 0) scheduled as the next bus transaction, at the pin levels
the state holds: the very next step runs it (assumption 2). -/
def State.withFetchWord (s : State) (nbits w : Nat) : State :=
  { s with agenda := { action := tableAccess nbits w, pins := s.pinIn } :: s.agenda }

end Sys2Proof.Machine
end

