-- ==== Sys2Proof/Machine/Pseudo.lean ====
section
/-! DEFINITION. The pseudo-operations (30_encoding.md R111, R112): sequences of operations that a host issues, none
atomic as a whole, with the loop of its clock read (44_timer_alarm_scheduler.md R198) and its handler (60_exceptions.md
R262). -/

namespace Sys2Proof.Machine

/-- `ALARM.REPEAT id, act, ivl, prm` (R112). -/
def alarmRepeat (id : BitVec 8) (act : BitVec 2) (ivl prm : Word) : List Instr :=
  [.wrAlmInterval ivl, .wrAlmParam prm, .almSetRepeating act id, .rdAlmStatus]

/-- `ALARM.ONESHOT id, act, ivl, prm` (R112). -/
def alarmOneshot (id : BitVec 8) (act : BitVec 2) (ivl prm : Word) : List Instr :=
  [.wrAlmInterval ivl, .wrAlmParam prm, .almSetOneshot act id, .rdAlmStatus]

/-- `ALARM.CLEAR id` (R112). -/
def alarmClear (id : BitVec 8) : List Instr := [.almClear id, .rdAlmStatus]

/-- `BTN.CONFIG b, en, wordA, wordB` (R112). -/
def btnConfig (b : BitVec 8) (en : Bool) (wordA wordB : Word) : List Instr :=
  [.wrBtnStageA wordA, .wrBtnStageB wordB, .wrBtnCmd b en]

/-- `GROUP.CONFIG n` (R112). -/
def groupConfig (n : BitVec 16) : List Instr := [.wrGrpCfg n]

/-- `SCAN` (R112). -/
def scanOnce : List Instr := [.wrGrpScan]

/-- `POLL` (R112). -/
def pollOnce : List Instr := [.poll]

/-! ## `CLOCK.READ` (44_timer_alarm_scheduler.md R198) -/

/-- The reads of one pass of the loop of `CLOCK.READ` (R198): high half, low half, high half again. -/
def clockReadAttempt : List Instr := [.rdTimehr, .rdTimelr, .rdTimehr]

/-- What a pass gives: the 64-bit value when the two high halves agree, otherwise nothing, and the host retries (R198). -/
def clockReadResult (hi1 lo hi2 : Word) : Option Wide := if hi1 = hi2 then some (hi1 ++ lo) else none

/-- Where the host stands in the loop of `CLOCK.READ`, with the values that the pass has read so far (R198). -/
inductive ClockReading where
  /-- a pass begins -/
  | start
  /-- `hi1` is read -/
  | high (hi1 : Word)
  /-- `hi1` and `lo` are read -/
  | low (hi1 lo : Word)
  /-- the loop has returned `value` -/
  | done (value : Wide)
  deriving DecidableEq, Repr

/-- The read the host issues next, or none once the loop has returned (R198). -/
def ClockReading.operation : ClockReading → Option Instr
  | .start => some .rdTimehr
  | .high _ => some .rdTimelr
  | .low _ _ => some .rdTimehr
  | .done _ => none

/-- Where the host stands after its read returned `v`: on a mismatch of the high halves the loop starts again (R198). -/
def ClockReading.resume (v : Word) : ClockReading → ClockReading
  | .start => .high v
  | .high hi1 => .low hi1 v
  | .low hi1 lo =>
    match clockReadResult hi1 lo v with
    | some value => .done value
    | none => .start
  | .done value => .done value

/-- The steps `es` of the environment, one after another, whatever the schedule of the state. -/
def takeSteps : List EnvStep → State → Result
  | [], s => .next s
  | e :: es, s =>
    match runStep e.action (s.begin e.pins) with
    | .next t => takeSteps es t
    | .fault f => .fault f
    | .refused r => .refused r

/-- The host's bus transaction for the operation `i`, at the pin levels the state holds. -/
def hostIssues (i : Instr) (s : State) : Result := access 4 (encode i) (s.begin s.pinIn)

/-- `CLOCK.READ` from where the host stands: the loop of R198, over the steps that other agents take before each of its reads
(00_scope.md R11: any steps). It answers where the host stands, and the state, when the loop has returned or the list ends:
the spec bounds the passes by nothing, so a longer list shows more of the loop (assumption 14). -/
def clockReadLoop : List (List EnvStep) → ClockReading → State → Host.Outcome (ClockReading × State) Fault Refusal
  | [], c, s => .next (c, s)
  | es :: rest, c, s =>
    match c.operation with
    | none => .next (c, s)
    | some i =>
      match takeSteps es s with
      | .fault f => .fault f
      | .refused r => .refused r
      | .next a =>
        match hostIssues i a with
        | .fault f => .fault f
        | .refused r => .refused r
        | .next t => clockReadLoop rest (c.resume (t.readData.getD 0#32)) t

/-! ## The handler -/

/-- `ISR i` with its callback body (60_exceptions.md R262): acknowledge, parameters, body, end of service. R262 marks the read
of `INTS` as optional: `readInts` says whether this handler makes it, so both sequences are covered. -/
def isr (readInts : Bool) (i : BitVec 3) (body : List Instr) : List Instr :=
  (if readInts then [.rdInts] else []) ++ [.wrIntr (1#8 <<< i.toNat), .rdAlmParamI i] ++ body ++ [.wrAlmEoi (i.setWidth 8)]

/-- The host issues a sequence of operations, one bus transaction a step, at fixed pin levels and with nothing between. -/
def script (pins : Word) (ops : List Instr) : List EnvStep :=
  ops.map fun i => { action := .access 4 (encode i), pins := pins }

end Sys2Proof.Machine
end

