-- ==== Sys2Proof/Machine/RegisterMap.lean ====
section
/-! DEFINITION. The register map as a table of contents (30_encoding.md R90, column "content"): what the register at an offset
holds, as a view of the state (10_state.md R49). The meanings do not use it: it is the second description of every read, by
address instead of by operation. -/

namespace Sys2Proof.Machine

/-- The registers at fixed offsets that 30_encoding.md R90 lists as readable, with their content. -/
def fixedRegisters (s : State) : List (Addr × Word) :=
  [(0x000, Config.idWord),
   (0x004, paramsWord s.params),
   (0x008, s.params.floorUs),
   (0x010, s.counter.extractLsb' 0 32),
   (0x014, s.counter.extractLsb' 32 32),
   (0x020, bitmask (s.channels.map Channel.intr)),
   (0x024, bitmask (s.channels.map Channel.inte)),
   (0x030, bitmask (s.channels.map fun c => c.intr && c.inte)),
   (0x034, bitmask (s.channels.map Channel.armed)),
   (0x038, bitmask (s.channels.map Channel.insvc)),
   (0x040, s.almIntervalStg),
   (0x044, s.almParamStg),
   (0x04C, s.almStatus.setWidth 32),
   (0x080, s.scanSkip.setWidth 32),
   (0x088, s.scanCnt),
   (0x08C, s.skipRem.setWidth 32),
   (0x090, s.evq.head?.getD 0),
   (0x094, BitVec.ofNat 32 s.evq.length),
   (0x0A0, s.btnStageA),
   (0x0A4, s.btnStageB),
   (0x0AC, bitmask (s.buttons.map Button.en))]

/-- The registers of a channel block, by offset in the block. -/
def channelRegisters (c : Channel) : List (BitVec 5 × Word) :=
  [(0x00, c.target.extractLsb' 0 32), (0x04, c.target.extractLsb' 32 32), (0x08, c.interval), (0x0C, c.param),
   (0x10, ctrlWord c)]

/-- The registers of a button block, by offset in the block. -/
def buttonRegisters (x : Button) : List (BitVec 5 × Word) :=
  [(0x00, cfgWordA x.cfg), (0x04, cfgWordB x.cfg), (0x08, x.raw.extractLsb' 0 32), (0x0C, x.raw.extractLsb' 32 32),
   (0x10, x.filt.extractLsb' 0 32), (0x14, x.filt.extractLsb' 32 32), (0x18, x.rep.setWidth 32)]

/-- What a host reads at an offset: the content of the register there, and 0 where the map lists no readable register
(20_memory.md R69). -/
def registerAt (s : State) (a : Addr) : Word :=
  match (fixedRegisters s).lookup a with
  | some v => v
  | none =>
    if 0x100 ≤ a.toNat ∧ a.toNat ≤ 0x1FF then
      s.channelView (a.extractLsb' 5 3).toNat fun c => ((channelRegisters c).lookup (a.extractLsb' 0 5)).getD 0#32
    else if 0x400 ≤ a.toNat ∧ a.toNat ≤ 0x7FF then
      s.buttonView (a.extractLsb' 5 5).toNat fun x => ((buttonRegisters x).lookup (a.extractLsb' 0 5)).getD 0#32
    else 0#32

end Sys2Proof.Machine
end

