-- ==== Sys2Proof/Safety.lean ====
section
/-! DEFINITION. What every reachable state satisfies (10_state.md R53 and the relations that the rules it cites keep), and
what holds between steps (45_interrupt_arbiter.md R245), in the terms the claims use. -/

namespace Sys2Proof.Machine

/-- The legal ranges of a held configuration (10_state.md R23; 42_button_event_classifier.md R158). -/
abbrev ButtonCfg.inRange (c : ButtonCfg) : Prop :=
  (10 ≤ c.hs.toNat ∧ c.hs.toNat ≤ 64) ∧ 1 ≤ c.fs.toNat ∧ c.af.toNat ≤ c.hs.toNat ∧ (c.mc = false → c.af.toNat = 0)
    ∧ c.l.toNat ≤ c.hs.toNat - 1 ∧ c.ll.toNat ≤ c.hs.toNat - 1

/-- R53 items 1 and 2: the configuration is in range and both windows lie inside their width. -/
abbrev Button.inv (x : Button) : Prop :=
  x.cfg.inRange ∧ x.raw.toNat < 2 ^ x.cfg.hs.toNat ∧ x.filt.toNat < 2 ^ x.cfg.hs.toNat

/-- R53 items 3, 5 and 7, with what 44_timer_alarm_scheduler.md R200 and R217 and 45_interrupt_arbiter.md R240 add: a pending
channel has a callback and is not armed; while a callback may rearm, its channel is a `HOST` channel, neither armed nor
pending. -/
abbrev Channel.inv (floor : Word) (c : Channel) : Prop :=
  (c.armed = true → c.action ≠ .none)
    ∧ (c.intr = true → c.action ≠ .none ∧ c.armed = false)
    ∧ (c.rearmOk = true → c.insvc = true ∧ c.action = .host ∧ c.armed = false ∧ c.intr = false)
    ∧ (c.action ≠ .none → floor.toNat ≤ c.interval.toNat)

/-- R53 item 6: a queued word has a type of 30_encoding.md R104 other than None. -/
def queuedWord (w : Word) : Bool := decide (1 ≤ (eventTypeField w).toNat ∧ (eventTypeField w).toNat ≤ 5)

/-- Between steps no armed comparator matches and no `SCAN` channel requests (45_interrupt_arbiter.md R245; R53 item 8). -/
abbrev State.settled (s : State) : Prop :=
  ∀ c ∈ s.channels, c.due s.counter = false ∧ c.scanRequest = false

/-- The invariant of the block (10_state.md R53), which every step keeps. -/
abbrev State.inv (s : State) : Prop :=
  s.params.wf
    ∧ s.buttons.length = s.params.nbtn
    ∧ s.channels.length = s.params.nalm
    ∧ (∀ x ∈ s.buttons, x.inv)
    ∧ (∀ c ∈ s.channels, c.inv s.params.floorUs)
    ∧ s.evq.length ≤ s.params.evqDepth
    ∧ s.evq.all queuedWord = true
    ∧ s.skipRem.toNat ≤ s.scanSkip.toNat
    ∧ s.almStatus ≠ 3#2
    ∧ s.counter.toNat < Config.wrapLimit
    ∧ s.settled

/-- Two states agree on every element of the block, whatever the model's own fields of the environment hold. -/
abbrev State.sameBlock (s t : State) : Prop :=
  { t with pinIn := s.pinIn, agenda := s.agenda, draws := s.draws, readData := s.readData } = s

/-- A step that is a read with no side effect: a transaction whose operation is a read other than `EVQ_POP`
(20_memory.md R67). -/
def Instr.quietRead (i : Instr) : Bool := !opRw (encode i) && i != .poll

/-- The events of button `b` over a sequence of scans, each with the level of its pin and its phase. -/
def scanEvents (b : Nat) : List (Bool × Word) → Button → List Event
  | [], _ => []
  | (pin, phase) :: rest, x =>
    (scanButton pin phase b x).2 :: scanEvents b rest (scanButton pin phase b x).1

/-- The event words that a classifying scan of the group produces, in ascending button index (43_button_group_queue.md R175,
R177), whether or not the queue has room for them. -/
def groupEvents (s : State) : List Word :=
  s.buttons.zipIdx.filterMap fun p =>
    if p.1.en = true ∧ (scanButton (s.pinIn.getLsbD p.2) s.scanCnt p.2 p.1).2.kind ≠ .none then
      some (eventWord (scanButton (s.pinIn.getLsbD p.2) s.scanCnt p.2 p.1).2)
    else none

/-- What an acknowledge leaves of channel `i` (45_interrupt_arbiter.md R232, R240), whatever the scans it starts do: only a
pending channel of the mask is serviced. -/
def acknowledgedChannel (floor : Word) (now : Wide) (mask : BitVec 8) (i : Nat) (c : Channel) : Channel :=
  if mask.getLsbD i = true ∧ c.intr = true then
    match c.action with
    | .none => { c with intr := false }
    | .host => { c with intr := false, insvc := true, rearmOk := true }
    | .scan => rearmChannel floor now { c with intr := false }
  else c

/-- How many group scans an acknowledge starts: the pending `SCAN` channels of the mask. -/
def acknowledgedScans (mask : BitVec 8) (s : State) : Nat :=
  s.channels.zipIdx.countP fun p => mask.getLsbD p.2 && p.1.intr && p.1.action == .scan

end Sys2Proof.Machine
end

