-- ==== Sys2Proof/Certificates/Slice0/Obligations.lean ====
section
/-! DEFINITION. The statements for the provers. Each docstring names the rule of spec/ that it formalises. -/

open Sys2Proof Sys2Proof.Machine

/-! ## The history window, the filter and the gate -/

/-- R121 to R124: a push shifts the window left by one, puts the new bit at index 0 and drops what leaves the window; direct
bit access inside the window and outside it; the all-true window. -/
def Obligations.WindowBits : Prop :=
  ∀ (w : Wide) (hs i j : Nat) (b : Bool), hs ≤ 64 →
    (push w hs b).getLsbD i = (decide (i < hs) && if i = 0 then b else w.getLsbD (i - 1))
      ∧ (i < hs → test w hs i = w.getLsbD i)
      ∧ (hs ≤ i → test w hs i = false)
      ∧ (i < hs → (setBit w hs i b).getLsbD j = (decide (j < hs) && if j = i then b else w.getLsbD j))
      ∧ (hs ≤ i → setBit w hs i b = w)
      ∧ (fill hs).getLsbD j = decide (j < hs)

/-- R125, R126: the trailing runs are the largest `n` in `0..HS` whose low `n` bits are all 1, or all 0; their corner cases;
and the two exclude each other. -/
def Obligations.TrailingRunsAreTheLargest : Prop :=
  ∀ (w : Wide) (hs : Nat), hs ≤ 64 →
    (trailingOnes w hs ≤ hs
        ∧ w &&& ones (trailingOnes w hs) = ones (trailingOnes w hs)
        ∧ (∀ n, n ≤ hs → w &&& ones n = ones n → n ≤ trailingOnes w hs)
        ∧ trailingOnes 0#64 hs = 0 ∧ trailingOnes (ones hs) hs = hs)
      ∧ (trailingZeros w hs ≤ hs
        ∧ w &&& ones (trailingZeros w hs) = 0#64
        ∧ (∀ n, n ≤ hs → w &&& ones n = 0#64 → n ≤ trailingZeros w hs)
        ∧ trailingZeros 0#64 hs = hs ∧ (w.getLsbD 0 = true → trailingZeros w hs = 0))
      ∧ (trailingOnes w hs = 0 ∨ trailingZeros w hs = 0)

/-- R127: the number of index pairs `(i, i+1)` inside the window with bit `i` 1 and bit `i+1` 0, at most one of them when
`singleOnly`, its range, and the rule's corner cases. -/
def Obligations.RisingEdgesAreCountedPairs : Prop :=
  ∀ (w : Wide) (hs : Nat), 10 ≤ hs → hs ≤ 64 →
    risingEdgeCount w hs false = ((List.range (hs - 1)).countP fun i => w.getLsbD i && !w.getLsbD (i + 1))
      ∧ risingEdgeCount w hs true = min (risingEdgeCount w hs false) 1
      ∧ risingEdgeCount w hs false ≤ hs / 2
      ∧ ∀ single : Bool, risingEdgeCount 0#64 hs single = 0
          ∧ (∀ k : Nat, risingEdgeCount ((ones hs <<< k) &&& ones hs) hs single = 0)
          ∧ risingEdgeCount ((1#64 : Wide) <<< (hs - 1)) hs single = 0

/-- R128: the low-run tests, and what they see over more bits than the window has. -/
def Obligations.LowRunTests : Prop :=
  ∀ (w : Wide) (hs n : Nat), hs ≤ 64 → w.toNat < 2 ^ hs →
    (lowAllOnes w hs n = true ↔ n ≤ hs ∧ ∀ i, i < n → w.getLsbD i = true)
      ∧ (lowAllZeros w hs n = true ↔ ∀ i, i < n → w.getLsbD i = false)
      ∧ (hs < n → lowAllOnes w hs n = false ∧ (lowAllZeros w hs n = true ↔ w = 0#64))
      ∧ lowAllOnes w hs 0 = true ∧ lowAllZeros w hs 0 = true

/-- R136: the new filtered bit flips only on `FS` unanimous samples and is carried otherwise; for `FS > HS` it is never made
1 by the samples. -/
def Obligations.FilterBitFlipsOnUnanimity : Prop :=
  ∀ (raw filt : Wide) (hs fs : Nat), 1 ≤ hs → hs ≤ 64 → 1 ≤ fs → raw.toNat < 2 ^ hs →
    ((fs ≤ hs ∧ ∀ i, i < fs → raw.getLsbD i = true) → filterBit raw filt hs fs = true)
      ∧ ((∀ i, i < fs → raw.getLsbD i = false) → filterBit raw filt hs fs = false)
      ∧ (¬(fs ≤ hs ∧ ∀ i, i < fs → raw.getLsbD i = true) → ¬(∀ i, i < fs → raw.getLsbD i = false) →
          filterBit raw filt hs fs = filt.getLsbD 0)
      ∧ (hs < fs → filterBit raw filt hs fs = (decide (raw ≠ 0#64) && filt.getLsbD 0))

/-- R137: the filtered window shifts by one each scan and takes the new bit at index 0, which is also
`Set(Push(FILT, HS, 0), HS, 0, newBit)`. -/
def Obligations.FilterUpdateShiftsInTheFilterBit : Prop :=
  ∀ (raw filt : Wide) (hs fs : Nat), 1 ≤ hs → hs ≤ 64 →
    (∀ i, (filterUpdate raw filt hs fs).getLsbD i =
        (decide (i < hs) && if i = 0 then filterBit raw filt hs fs else filt.getLsbD (i - 1)))
      ∧ filterUpdate raw filt hs fs = setBit (push filt hs false) hs 0 (filterBit raw filt hs fs)

/-- R140: the gate is true when `AF` is 0 or the newest `AF` filtered bits are all 0; a clamped configuration has `AF <= HS`
and is always open in single-click mode. -/
def Obligations.GateOpensOnQuietRelease : Prop :=
  (∀ (filt : Wide) (hs af : Nat), hs ≤ 64 → af ≤ hs →
      (gate filt hs af = true ↔ af = 0 ∨ ∀ i, i < af → filt.getLsbD i = false))
    ∧ ∀ (a b : Word) (filt : Wide), (clamp a b).af.toNat ≤ (clamp a b).hs.toNat
        ∧ ((clamp a b).mc = false → gate filt (clamp a b).hs.toNat (clamp a b).af.toNat = true)

/-! ## Configuration -/

/-- R158 (with R154 to R157): every field of a clamped configuration, by arithmetic on the two words, the bounds that every
result satisfies, and the clamp of two zero words. -/
def Obligations.ClampOfConfigurationWords : Prop :=
  (∀ a b : Word,
      (clamp a b).hs.toNat = min (max (a.toNat / 2 ^ 8 % 2 ^ 8) 10) 64
        ∧ (clamp a b).fs.toNat = max (a.toNat / 2 ^ 16 % 2 ^ 8) 1
        ∧ (clamp a b).mc = decide (a.toNat / 2 % 2 = 1)
        ∧ (clamp a b).af.toNat = (if a.toNat / 2 % 2 = 1 then min (a.toNat / 2 ^ 24) (clamp a b).hs.toNat else 0)
        ∧ (clamp a b).ah = decide (a.toNat % 2 = 1)
        ∧ (clamp a b).r.toNat = b.toNat % 2 ^ 8
        ∧ (clamp a b).rs.toNat = b.toNat / 2 ^ 8 % 2 ^ 8
        ∧ (clamp a b).l.toNat = min (b.toNat / 2 ^ 16 % 2 ^ 8) ((clamp a b).hs.toNat - 1)
        ∧ (clamp a b).ll.toNat = min (b.toNat / 2 ^ 24) ((clamp a b).hs.toNat - 1)
        ∧ (clamp a b).inRange)
    ∧ clamp 0#32 0#32 = { ah := false, mc := false, hs := 10, fs := 1, af := 0, r := 0, rs := 0, l := 0, ll := 0 }
    ∧ cfgWordA (clamp 0#32 0#32) = 0x00010A00#32 ∧ cfgWordB (clamp 0#32 0#32) = 0#32

/-- R159: `WR_BTN_CMD` constructs button `index` from the staged words, clamped, with empty windows and a repeat counter of 0;
an index at `NBTN` or above is ignored. Nothing else changes. -/
def Obligations.ConstructionOfAButton : Prop :=
  ∀ (s : State) (index : BitVec 8) (en : Bool),
    encode (.wrBtnCmd index en) = packOp true 0x0A8#12 (BitVec.ofNat 32 (index.toNat + 256 * en.toNat))
      ∧ (s.params.nbtn ≤ index.toNat → exec (.wrBtnCmd index en) s = .next s)
      ∧ (index.toNat < s.params.nbtn →
          exec (.wrBtnCmd index en) s = .next { s with
            buttons := s.buttons.set index.toNat
              { cfg := clamp s.btnStageA s.btnStageB, en := en, raw := 0#64, filt := 0#64, rep := 0#8 } })

/-- R170, R171, R172: the configuration words of button `b` show its nine held fields, and the repeat counter is read
zero-extended; a button at `NBTN` or above reads 0. -/
def Obligations.ReadsOfAButton : Prop :=
  ∀ (s : State) (b : BitVec 5),
    (encode (.rdBtnCfgA b) = packOp false (BitVec.ofNat 12 (0x400 + 0x20 * b.toNat)) 0#32
        ∧ encode (.rdBtnCfgB b) = packOp false (BitVec.ofNat 12 (0x404 + 0x20 * b.toNat)) 0#32
        ∧ encode (.rdBtnRep b) = packOp false (BitVec.ofNat 12 (0x418 + 0x20 * b.toNat)) 0#32)
      ∧ (s.params.nbtn ≤ b.toNat →
          exec (.rdBtnCfgA b) s = .next { s with readData := some 0#32 }
            ∧ exec (.rdBtnCfgB b) s = .next { s with readData := some 0#32 }
            ∧ exec (.rdBtnRep b) s = .next { s with readData := some 0#32 })
      ∧ ∀ x, b.toNat < s.params.nbtn → s.buttons[b.toNat]? = some x →
          (∃ v : Word, exec (.rdBtnCfgA b) s = .next { s with readData := some v }
              ∧ v.toNat = x.cfg.ah.toNat + 2 * x.cfg.mc.toNat + 2 ^ 8 * x.cfg.hs.toNat + 2 ^ 16 * x.cfg.fs.toNat
                  + 2 ^ 24 * x.cfg.af.toNat)
            ∧ (∃ v : Word, exec (.rdBtnCfgB b) s = .next { s with readData := some v }
                ∧ v.toNat = x.cfg.r.toNat + 2 ^ 8 * x.cfg.rs.toNat + 2 ^ 16 * x.cfg.l.toNat + 2 ^ 24 * x.cfg.ll.toNat)
            ∧ ∃ v : Word, exec (.rdBtnRep b) s = .next { s with readData := some v } ∧ v.toNat = x.rep.toNat

/-- R130 to R133: the halves of the two windows of button `b`; a button at `NBTN` or above reads 0. -/
def Obligations.ReadsOfAWindow : Prop :=
  ∀ (s : State) (b : BitVec 5),
    (encode (.rdBtnRawLo b) = packOp false (BitVec.ofNat 12 (0x408 + 0x20 * b.toNat)) 0#32
        ∧ encode (.rdBtnRawHi b) = packOp false (BitVec.ofNat 12 (0x40C + 0x20 * b.toNat)) 0#32
        ∧ encode (.rdBtnFiltLo b) = packOp false (BitVec.ofNat 12 (0x410 + 0x20 * b.toNat)) 0#32
        ∧ encode (.rdBtnFiltHi b) = packOp false (BitVec.ofNat 12 (0x414 + 0x20 * b.toNat)) 0#32)
      ∧ (s.params.nbtn ≤ b.toNat →
          exec (.rdBtnRawLo b) s = .next { s with readData := some 0#32 }
            ∧ exec (.rdBtnRawHi b) s = .next { s with readData := some 0#32 }
            ∧ exec (.rdBtnFiltLo b) s = .next { s with readData := some 0#32 }
            ∧ exec (.rdBtnFiltHi b) s = .next { s with readData := some 0#32 })
      ∧ ∀ x, b.toNat < s.params.nbtn → s.buttons[b.toNat]? = some x →
          exec (.rdBtnRawLo b) s = .next { s with readData := some (BitVec.ofNat 32 (x.raw.toNat % 2 ^ 32)) }
            ∧ exec (.rdBtnRawHi b) s = .next { s with readData := some (BitVec.ofNat 32 (x.raw.toNat / 2 ^ 32)) }
            ∧ exec (.rdBtnFiltLo b) s = .next { s with readData := some (BitVec.ofNat 32 (x.filt.toNat % 2 ^ 32)) }
            ∧ exec (.rdBtnFiltHi b) s = .next { s with readData := some (BitVec.ofNat 32 (x.filt.toNat / 2 ^ 32)) }

/-! ## The scan of one button -/

/-- R162: what a scan does to the repeat counter and what it reports, on an evaluated scan with the press long enough, on any
other evaluated scan, and on a scan that is not evaluated. -/
def Obligations.RepeatDetection : Prop :=
  ∀ (pin : Bool) (phase : Word) (b : Nat) (x : Button),
    (x.cfg.l = 0#6 ∧ x.cfg.ll = 0#6 ∧ phase.toNat % (x.cfg.rs.toNat + 1) = 0 →
        0 < x.cfg.r.toNat ∧ x.cfg.r.toNat ≤ trailingOnes (push x.raw x.cfg.hs.toNat (pin == x.cfg.ah)) x.cfg.hs.toNat →
        (scanButton pin phase b x).1.rep.toNat = min (x.rep.toNat + 1) 255
          ∧ (scanButton pin phase b x).2.repeats = (scanButton pin phase b x).1.rep)
      ∧ (x.cfg.l = 0#6 ∧ x.cfg.ll = 0#6 ∧ phase.toNat % (x.cfg.rs.toNat + 1) = 0 →
        ¬(0 < x.cfg.r.toNat ∧ x.cfg.r.toNat ≤ trailingOnes (push x.raw x.cfg.hs.toNat (pin == x.cfg.ah)) x.cfg.hs.toNat) →
        (scanButton pin phase b x).1.rep = 0#8 ∧ (scanButton pin phase b x).2.repeats = 0#8)
      ∧ (¬(x.cfg.l = 0#6 ∧ x.cfg.ll = 0#6 ∧ phase.toNat % (x.cfg.rs.toNat + 1) = 0) →
        (scanButton pin phase b x).1.rep = x.rep ∧ (scanButton pin phase b x).2.repeats = 0#8)

/-- R163 and R167: the type of the event of a scan, from its repeat count, its click count and the run of pressed scans
against the two thresholds; a threshold of 0 detects nothing. -/
def Obligations.EventSelection : Prop :=
  ∀ (pin : Bool) (phase : Word) (b : Nat) (x : Button),
    (scanButton pin phase b x).2.kind =
      if 0 < (scanButton pin phase b x).2.repeats.toNat then .singleRepeated
      else if 1 < (scanButton pin phase b x).2.clicks then .multi
      else if (scanButton pin phase b x).2.clicks = 1 then .single
      else if x.cfg.r.toNat = 0 ∧ 0 < x.cfg.l.toNat
          ∧ trailingOnes (push x.raw x.cfg.hs.toNat (pin == x.cfg.ah)) x.cfg.hs.toNat = x.cfg.l.toNat then .long
      else if x.cfg.r.toNat = 0 ∧ 0 < x.cfg.ll.toNat
          ∧ trailingOnes (push x.raw x.cfg.hs.toNat (pin == x.cfg.ah)) x.cfg.hs.toNat = x.cfg.ll.toNat then .longLong
      else .none

/-- R161: a scan of a button in range changes its two windows and its repeat counter and nothing else of the button, keeps
both windows inside their width, and counts at most `HS / 2` clicks, at most one in single-click mode; a counted click leaves
the filtered window all true (R166). -/
def Obligations.ScanKeepsTheButtonInRange : Prop :=
  ∀ (pin : Bool) (phase : Word) (b : Nat) (x : Button), x.inv →
    (scanButton pin phase b x).1.cfg = x.cfg
      ∧ (scanButton pin phase b x).1.en = x.en
      ∧ (scanButton pin phase b x).1.inv
      ∧ (scanButton pin phase b x).2.button = b
      ∧ (scanButton pin phase b x).2.clicks ≤ x.cfg.hs.toNat / 2
      ∧ (x.cfg.mc = false → (scanButton pin phase b x).2.clicks ≤ 1)
      ∧ (0 < (scanButton pin phase b x).2.clicks → (scanButton pin phase b x).1.filt = ones x.cfg.hs.toNat)

/-- R164 and the corner case of R167: a scan whose run of pressed samples equals the Long threshold reports a Long with no
click and no repeat, and leaves the filtered window all true. -/
def Obligations.LongIsReportedWithoutClicks : Prop :=
  ∀ (pin : Bool) (phase : Word) (b : Nat) (x : Button), x.inv → x.cfg.r = 0#8 → 0 < x.cfg.l.toNat →
    trailingOnes (push x.raw x.cfg.hs.toNat (pin == x.cfg.ah)) x.cfg.hs.toNat = x.cfg.l.toNat →
    (scanButton pin phase b x).2 = { kind := .long, button := b, clicks := 0, repeats := 0#8 }
      ∧ (scanButton pin phase b x).1.filt = ones x.cfg.hs.toNat

/-- R174 item 2: over a hold of any length that starts after a released sample, whatever older presses the window still holds,
without repeat detection, the Long event comes at exactly the scan whose number is the Long threshold, and the LongLong event at exactly the scan whose number is the
LongLong threshold, if it differs and no click is counted there: no duplicate of either. -/
def Obligations.AHoldReportsEachThresholdOnce : Prop :=
  ∀ (b : Nat) (x : Button) (phases : List Word), x.inv → x.raw.getLsbD 0 = false → x.cfg.r = 0#8 →
    ∀ (k : Nat) (e : Event), (scanEvents b (phases.map fun p => (x.cfg.ah, p)) x)[k]? = some e →
      (e.kind = .long ↔ 0 < x.cfg.l.toNat ∧ k + 1 = x.cfg.l.toNat)
        ∧ (e.kind = .longLong ↔ 0 < x.cfg.ll.toNat ∧ k + 1 = x.cfg.ll.toNat ∧ x.cfg.ll ≠ x.cfg.l ∧ e.clicks = 0)

/-- R174 item 3: with `FS = 1`, single-click mode and a newest sample released in both windows, one press scan followed by release scans gives one
Single event, at the press, and no other event, where the press alone reaches neither the Long nor the repeat threshold. -/
def Obligations.OnePressIsOneSingle : Prop :=
  ∀ (b : Nat) (x : Button) (phase : Word) (phases : List Word), x.inv → x.raw.getLsbD 0 = false → x.filt.getLsbD 0 = false →
    x.cfg.fs.toNat = 1 → x.cfg.mc = false → x.cfg.r.toNat ≠ 1 → x.cfg.l.toNat ≠ 1 →
    (scanEvents b ((x.cfg.ah, phase) :: phases.map fun p => (!x.cfg.ah, p)) x).map Event.kind
      = .single :: phases.map fun _ => .none

/-- R168 with the layout of R104: the four fields of an event word. -/
def Obligations.EventWordFields : Prop :=
  ∀ e : Event, e.button < 32 → e.clicks ≤ 32 →
    (eventWord e).toNat = (match e.kind with
        | .none => 0 | .single => 1 | .singleRepeated => 2 | .multi => 3 | .long => 4 | .longLong => 5)
      + 2 ^ 8 * e.button + 2 ^ 16 * e.clicks + 2 ^ 24 * e.repeats.toNat

/-! ## The group and its queue -/

/-- R175, R177, R180, R185: a `WR_GRP_SCAN` that is not skipped scans every enabled button at its own pin and the common
phase, queues the events in ascending button index as far as the queue has room, drops the rest, and counts the scan. -/
def Obligations.ScanCommandClassifies : Prop :=
  ∀ s : State, s.skipRem = 0#16 → s.evq.length ≤ s.params.evqDepth →
    exec .wrGrpScan s = .next { s with
      buttons := s.buttons.mapIdx fun b x => if x.en then (scanButton (s.pinIn.getLsbD b) s.scanCnt b x).1 else x
      evq := (s.evq ++ groupEvents s).take s.params.evqDepth
      scanCnt := BitVec.ofNat 32 (s.scanCnt.toNat + 1) }

/-- R175, R176: a skipped scan changes nothing but `SKIP_REM`, which counts down by one; and the word of the operation
(R185). -/
def Obligations.ScanCommandSkips : Prop :=
  encode .wrGrpScan = packOp true 0x084#12 0#32
    ∧ ∀ s : State, s.skipRem ≠ 0#16 →
        exec .wrGrpScan s = .next { s with skipRem := BitVec.ofNat 16 (s.skipRem.toNat - 1) }

/-- R182: a poll of a queue that is not empty returns its head and removes it; a poll of an empty queue returns 0 and changes
nothing. -/
def Obligations.PollTakesTheOldestEvent : Prop :=
  encode .poll = packOp false 0x090#12 0#32
    ∧ (∀ (s : State) (e : Word) (rest : List Word), s.evq = e :: rest →
        exec .poll s = .next { s with evq := rest, readData := some e })
    ∧ ∀ s : State, s.evq = [] → exec .poll s = .next { s with readData := some 0#32 }

/-- R183: a write of `GRP_CFG` loads the skip count and restarts the scan count, and changes nothing else; R184, R186, R187,
R188: the group registers read back. -/
def Obligations.GroupRegisters : Prop :=
  ∀ (s : State) (n : BitVec 16),
    (encode (.wrGrpCfg n) = packOp true 0x080#12 (n.setWidth 32)
        ∧ exec (.wrGrpCfg n) s = .next { s with scanSkip := n, skipRem := n, scanCnt := 0#32 })
      ∧ (encode .rdGrpCfg = packOp false 0x080#12 0#32
          ∧ exec .rdGrpCfg s = .next { s with readData := some (BitVec.ofNat 32 s.scanSkip.toNat) })
      ∧ (encode .rdGrpScancnt = packOp false 0x088#12 0#32
          ∧ exec .rdGrpScancnt s = .next { s with readData := some s.scanCnt })
      ∧ (encode .rdGrpSkiprem = packOp false 0x08C#12 0#32
          ∧ exec .rdGrpSkiprem s = .next { s with readData := some (BitVec.ofNat 32 s.skipRem.toNat) })
      ∧ (encode .rdEvqStatus = packOp false 0x094#12 0#32
          ∧ exec .rdEvqStatus s = .next { s with readData := some (BitVec.ofNat 32 s.evq.length) })

/-! ## Identification, the clock and the alarm registers -/

/-- R203, R204, R205: the identification registers; R196, R197: the two halves of the counter, each as it stands, with no
latch. A write to any of the five is ignored. -/
def Obligations.IdentificationAndClock : Prop :=
  ∀ s : State,
    (encode .rdId = packOp false 0x000#12 0#32 ∧ exec .rdId s = .next { s with readData := some 0x44425331#32 })
      ∧ (encode .rdParams = packOp false 0x004#12 0#32
          ∧ ∃ v : Word, exec .rdParams s = .next { s with readData := some v }
              ∧ (s.params.wf → v.toNat = s.params.nbtn + 2 ^ 8 * s.params.nalm + 2 ^ 16 * s.params.evqDepth))
      ∧ (encode .rdFloor = packOp false 0x008#12 0#32
          ∧ exec .rdFloor s = .next { s with readData := some s.params.floorUs })
      ∧ (encode .rdTimelr = packOp false 0x010#12 0#32
          ∧ exec .rdTimelr s = .next { s with readData := some (BitVec.ofNat 32 (s.counter.toNat % 2 ^ 32)) })
      ∧ (encode .rdTimehr = packOp false 0x014#12 0#32
          ∧ exec .rdTimehr s = .next { s with readData := some (BitVec.ofNat 32 (s.counter.toNat / 2 ^ 32)) })
      ∧ ∀ a ∈ [0x000#12, 0x004#12, 0x008#12, 0x010#12, 0x014#12], ∀ d : Word,
          decode (packOp true a d) = .ok (.wrUnmapped a) ∧ exec (.wrUnmapped a) s = .next s

/-- R198, R199: where the two reads of the high half agree, a pass of the clock-read protocol returns exactly the counter at the
instant of the read of the low half, whatever the ticks between the reads; where they differ it returns nothing and the host
retries. -/
def Obligations.ClockReadReturnsTheCounter : Prop :=
  ∀ c1 c2 c3 : Wide, c1 ≤ c2 → c2 ≤ c3 →
    (hiHalf c1 = hiHalf c3 → clockReadResult (hiHalf c1) (loHalf c2) (hiHalf c3) = some c2)
      ∧ (hiHalf c1 ≠ hiHalf c3 → clockReadResult (hiHalf c1) (loHalf c2) (hiHalf c3) = none)

/-- R206 to R209: the staged interval and parameter, and R150 to R153: the staged configuration words, are stored and read
back as written, whatever the operand and the state. -/
def Obligations.StagingRegisters : Prop :=
  ∀ (s : State) (d : Word),
    (encode (.wrBtnStageA d) = packOp true 0x0A0#12 d ∧ exec (.wrBtnStageA d) s = .next { s with btnStageA := d })
      ∧ (encode (.wrBtnStageB d) = packOp true 0x0A4#12 d ∧ exec (.wrBtnStageB d) s = .next { s with btnStageB := d })
      ∧ (encode .rdBtnStageA = packOp false 0x0A0#12 0#32
          ∧ exec .rdBtnStageA s = .next { s with readData := some s.btnStageA })
      ∧ (encode .rdBtnStageB = packOp false 0x0A4#12 0#32
          ∧ exec .rdBtnStageB s = .next { s with readData := some s.btnStageB })
      ∧ (encode (.wrAlmInterval d) = packOp true 0x040#12 d
          ∧ exec (.wrAlmInterval d) s = .next { s with almIntervalStg := d })
      ∧ (encode (.wrAlmParam d) = packOp true 0x044#12 d ∧ exec (.wrAlmParam d) s = .next { s with almParamStg := d })
      ∧ (encode .rdAlmInterval = packOp false 0x040#12 0#32
          ∧ exec .rdAlmInterval s = .next { s with readData := some s.almIntervalStg })
      ∧ (encode .rdAlmParam = packOp false 0x044#12 0#32
          ∧ exec .rdAlmParam s = .next { s with readData := some s.almParamStg })

/-- R223 to R228: the command status and the registers of channel `i`; a channel at `NALM` or above reads 0. -/
def Obligations.ReadsOfAChannel : Prop :=
  ∀ (s : State) (i : BitVec 3),
    (encode .rdAlmStatus = packOp false 0x04C#12 0#32
        ∧ exec .rdAlmStatus s = .next { s with readData := some (BitVec.ofNat 32 s.almStatus.toNat) })
      ∧ (encode (.rdAlmTargetLo i) = packOp false (BitVec.ofNat 12 (0x100 + 0x20 * i.toNat)) 0#32
          ∧ encode (.rdAlmTargetHi i) = packOp false (BitVec.ofNat 12 (0x104 + 0x20 * i.toNat)) 0#32
          ∧ encode (.rdAlmIntervalI i) = packOp false (BitVec.ofNat 12 (0x108 + 0x20 * i.toNat)) 0#32
          ∧ encode (.rdAlmParamI i) = packOp false (BitVec.ofNat 12 (0x10C + 0x20 * i.toNat)) 0#32
          ∧ encode (.rdAlmCtrl i) = packOp false (BitVec.ofNat 12 (0x110 + 0x20 * i.toNat)) 0#32)
      ∧ (s.params.nalm ≤ i.toNat →
          exec (.rdAlmTargetLo i) s = .next { s with readData := some 0#32 }
            ∧ exec (.rdAlmTargetHi i) s = .next { s with readData := some 0#32 }
            ∧ exec (.rdAlmIntervalI i) s = .next { s with readData := some 0#32 }
            ∧ exec (.rdAlmParamI i) s = .next { s with readData := some 0#32 }
            ∧ exec (.rdAlmCtrl i) s = .next { s with readData := some 0#32 })
      ∧ ∀ c, i.toNat < s.params.nalm → s.channels[i.toNat]? = some c →
          exec (.rdAlmTargetLo i) s = .next { s with readData := some (BitVec.ofNat 32 (c.target.toNat % 2 ^ 32)) }
            ∧ exec (.rdAlmTargetHi i) s = .next { s with readData := some (BitVec.ofNat 32 (c.target.toNat / 2 ^ 32)) }
            ∧ exec (.rdAlmIntervalI i) s = .next { s with readData := some c.interval }
            ∧ exec (.rdAlmParamI i) s = .next { s with readData := some c.param }
            ∧ ∃ v : Word, exec (.rdAlmCtrl i) s = .next { s with readData := some v }
                ∧ v.toNat = c.repeating.toNat + 2 * (match c.action with | .none => 0 | .host => 1 | .scan => 2)
                    + 8 * c.armed.toNat + 16 * c.insvc.toNat + 32 * c.rearmOk.toNat

/-- R229, R231, R236, R237, R238 and R173 with R95 and R107: a bit mask register has the bit of channel (or button) `i` at
bit `i` and 0 above, and its read changes nothing else. -/
def Obligations.BitMaskRegisters : Prop :=
  ∀ (s : State),
    (encode .rdArmed = packOp false 0x034#12 0#32 ∧ encode .rdIntr = packOp false 0x020#12 0#32
        ∧ encode .rdInte = packOp false 0x024#12 0#32 ∧ encode .rdInts = packOp false 0x030#12 0#32
        ∧ encode .rdInsvc = packOp false 0x038#12 0#32 ∧ encode .rdBtnEn = packOp false 0x0AC#12 0#32)
      ∧ ∀ p ∈ [(Instr.rdArmed, s.channels.map Channel.armed), (.rdIntr, s.channels.map Channel.intr),
            (.rdInte, s.channels.map Channel.inte), (.rdInts, s.channels.map fun c => c.intr && c.inte),
            (.rdInsvc, s.channels.map Channel.insvc), (.rdBtnEn, s.buttons.map Button.en)],
          ∃ v : Word, exec p.1 s = .next { s with readData := some v }
            ∧ ∀ i, i < 32 → v.getLsbD i = p.2[i]?.getD false

/-! ## Alarm commands, rearm and end of service -/

/-- R210: a clear frees the channel and leaves everything else of it; an illegal id changes `ALM_STATUS` alone. -/
def Obligations.ClearFreesTheChannel : Prop :=
  ∀ (s : State) (id : BitVec 8),
    encode (.almClear id) = packOp true 0x048#12 (BitVec.ofNat 32 (256 * id.toNat))
      ∧ (id.toNat < s.params.nalm →
          exec (.almClear id) s = .next { s with
            almStatus := 0#2
            channels := s.channels.modify id.toNat fun c =>
              { c with action := .none, armed := false, inte := false, intr := false, rearmOk := false } })
      ∧ (s.params.nalm ≤ id.toNat → exec (.almClear id) s = .next { s with almStatus := 1#2 })

/-- R212, R213, R214: a legal registration. The target is `now` plus the interval after the floor clamp, or `now` plus the
floor if that has passed, modulo 2^64; below the wrap region it is always the former. The channel is armed and enabled, a stale
fire and the rearm permission are dropped, `INSVC` stays. -/
def Obligations.RegistrationArmsTheChannel : Prop :=
  ∀ (s : State) (rep : Bool) (act : BitVec 2) (id : BitVec 8) (ival target : Nat),
    ival = max s.almIntervalStg.toNat s.params.floorUs.toNat →
    target = (if (s.counter.toNat + ival) % 2 ^ 64 ≤ s.counter.toNat then s.counter.toNat + s.params.floorUs.toNat
      else s.counter.toNat + ival) →
    encode (if rep then .almSetRepeating act id else .almSetOneshot act id)
        = packOp true 0x048#12 (BitVec.ofNat 32 ((if rep then 2 else 1) + 4 * act.toNat + 256 * id.toNat))
      ∧ (s.counter.toNat < Config.wrapLimit → 1 ≤ s.params.floorUs.toNat → target = s.counter.toNat + ival)
      ∧ (id.toNat < s.params.nalm → act = 1#2 ∨ act = 2#2 →
          exec (if rep then .almSetRepeating act id else .almSetOneshot act id) s = .next { s with
            almStatus := 0#2
            channels := s.channels.modify id.toNat fun c =>
              { c with
                interval := BitVec.ofNat 32 ival
                target := BitVec.ofNat 64 target
                param := s.almParamStg
                repeating := rep
                action := if act = 1#2 then .host else .scan
                intr := false
                rearmOk := false
                armed := true
                inte := true } })

/-- R215, R216: a command that fails validation changes `ALM_STATUS` alone, and the id is checked first; a command that passes
leaves `ALM_STATUS` 0. -/
def Obligations.ValidationOfAlarmCommands : Prop :=
  ∀ (s : State) (act : BitVec 2) (id : BitVec 8),
    encode (.almCmdRsvd id) = packOp true 0x048#12 (BitVec.ofNat 32 (3 + 256 * id.toNat))
      ∧ (s.params.nalm ≤ id.toNat →
          exec (.almClear id) s = .next { s with almStatus := 1#2 }
            ∧ exec (.almSetOneshot act id) s = .next { s with almStatus := 1#2 }
            ∧ exec (.almSetRepeating act id) s = .next { s with almStatus := 1#2 }
            ∧ exec (.almCmdRsvd id) s = .next { s with almStatus := 1#2 })
      ∧ (id.toNat < s.params.nalm →
          exec (.almCmdRsvd id) s = .next { s with almStatus := 2#2 }
            ∧ (act = 0#2 ∨ act = 3#2 →
              exec (.almSetOneshot act id) s = .next { s with almStatus := 2#2 }
                ∧ exec (.almSetRepeating act id) s = .next { s with almStatus := 2#2 })
            ∧ (∃ t, exec (.almClear id) s = .next t ∧ t.almStatus = 0#2)
            ∧ (act = 1#2 ∨ act = 2#2 →
              (∃ t, exec (.almSetOneshot act id) s = .next t ∧ t.almStatus = 0#2)
                ∧ ∃ t, exec (.almSetRepeating act id) s = .next t ∧ t.almStatus = 0#2))

/-- R220: a rearm of a repeating alarm arms it at its next period, modulo 2^64, or at `now` plus the floor when the next period
has elapsed by more than the floor; one that has elapsed by the floor or less is kept, and the comparators, which `Settle` runs
first, fire it at once; a rearm of a one-shot alarm frees it. R219, phase lock: with a callback latency shorter than
the interval, the next target is the previous target plus the interval, and still ahead of `now`. -/
def Obligations.RearmIsPhaseLocked : Prop :=
  ∀ (s : State) (i : Nat) (c : Channel), s.channels[i]? = some c →
    (c.repeating = false →
        rearm i s = { s with channels := s.channels.set i { c with action := .none, armed := false, inte := false } })
      ∧ (c.repeating = true → ∀ next : Nat, next = (c.target.toNat + c.interval.toNat) % 2 ^ 64 →
          rearm i s = { s with
            channels := s.channels.set i
              { c with
                armed := true
                target := BitVec.ofNat 64
                  (if next < s.counter.toNat ∧ s.params.floorUs.toNat < s.counter.toNat - next
                   then s.counter.toNat + s.params.floorUs.toNat else next) } })
      ∧ (c.repeating = true → ∀ next : Nat, next = (c.target.toNat + c.interval.toNat) % 2 ^ 64 →
          next ≤ s.counter.toNat → s.counter.toNat - next ≤ s.params.floorUs.toNat →
          (fireAll (rearm i s)).channels[i]? = some { c with target := BitVec.ofNat 64 next, armed := false, intr := true })
      ∧ (c.repeating = true → s.counter.toNat < Config.wrapLimit → c.target ≤ s.counter →
          s.counter.toNat - c.target.toNat < c.interval.toNat →
          s.counter.toNat < c.target.toNat + c.interval.toNat
            ∧ rearm i s = { s with
                channels := s.channels.set i
                  { c with armed := true, target := BitVec.ofNat 64 (c.target.toNat + c.interval.toNat) } })

/-- R222 with R220: the end-of-service write, in each of its cases: an illegal id; a channel not in service; a service whose
registration was replaced or cleared; a one-shot alarm, which is freed; a repeating alarm, which is armed again. -/
def Obligations.EndOfService : Prop :=
  ∀ (s : State) (id : BitVec 8),
    encode (.wrAlmEoi id) = packOp true 0x050#12 (id.setWidth 32)
      ∧ (s.params.nalm ≤ id.toNat → exec (.wrAlmEoi id) s = .next { s with almStatus := 1#2 })
      ∧ ∀ c, id.toNat < s.params.nalm → s.channels[id.toNat]? = some c →
          (c.insvc = false → exec (.wrAlmEoi id) s = .next { s with almStatus := 0#2 })
            ∧ (c.insvc = true → c.rearmOk = false →
                exec (.wrAlmEoi id) s = .next { s with
                  almStatus := 0#2, channels := s.channels.set id.toNat { c with insvc := false } })
            ∧ (c.insvc = true → c.rearmOk = true → c.repeating = false →
                exec (.wrAlmEoi id) s = .next { s with
                  almStatus := 0#2
                  channels := s.channels.set id.toNat
                    { c with insvc := false, rearmOk := false, action := .none, armed := false, inte := false } })
            ∧ (c.insvc = true → c.rearmOk = true → c.repeating = true →
                exec (.wrAlmEoi id) s = .next { s with
                  almStatus := 0#2
                  channels := s.channels.set id.toNat
                    { c with
                      insvc := false, rearmOk := false, armed := true
                      target := rearmTarget s.params.floorUs c.interval s.counter c.target } })

/-! ## The interrupt masks and the acknowledge -/

/-- R232, R240: an acknowledge completes, services exactly the pending channels of the mask, each by its callback, and runs
one group scan for each pending `SCAN` channel of the mask; nothing else changes. That several scans of one acknowledge sample
the same pin levels is the model's inference (assumption 4). -/
def Obligations.AcknowledgeServicesPendingChannels : Prop :=
  ∀ (s : State) (mask : BitVec 8), s.channels.length = s.params.nalm →
    encode (.wrIntr mask) = packOp true 0x020#12 (mask.setWidth 32)
      ∧ exec (.wrIntr mask) s = .next { (Nat.iterate groupScan (acknowledgedScans mask s) s) with
          channels := s.channels.mapIdx (acknowledgedChannel s.params.floorUs s.counter mask) }

/-- R233, R234, R235: the plain write, the bit set and the bit clear of the enables; no channel beyond `NALM` exists to be
written, and nothing else of a channel changes. -/
def Obligations.EnableMaskWrites : Prop :=
  ∀ (s : State) (mask : BitVec 8),
    (encode (.wrInte mask) = packOp true 0x024#12 (mask.setWidth 32)
        ∧ encode (.wrInteSet mask) = packOp true 0x028#12 (mask.setWidth 32)
        ∧ encode (.wrInteClr mask) = packOp true 0x02C#12 (mask.setWidth 32))
      ∧ exec (.wrInte mask) s = .next { s with
          channels := s.channels.mapIdx fun i c => { c with inte := mask.getLsbD i } }
      ∧ exec (.wrInteSet mask) s = .next { s with
          channels := s.channels.mapIdx fun i c => if mask.getLsbD i then { c with inte := true } else c }
      ∧ exec (.wrInteClr mask) s = .next { s with
          channels := s.channels.mapIdx fun i c => if mask.getLsbD i then { c with inte := false } else c }
      ∧ ∀ d : Word, decode (packOp false 0x028#12 d) = .ok (.rdUnmapped 0x028#12)
          ∧ decode (packOp false 0x02C#12 d) = .ok (.rdUnmapped 0x02C#12)

/-! ## Settle -/

/-- R217: the comparators set the status bit and disarm exactly the armed channels whose target the counter has reached; R242:
the line of channel `i` is high exactly when the channel is pending, enabled and has a `HOST` callback. -/
def Obligations.ComparatorsAndLines : Prop :=
  ∀ s : State,
    fireAll s = { s with
        channels := s.channels.map fun c =>
          if c.armed = true ∧ c.target.toNat ≤ s.counter.toNat then { c with intr := true, armed := false } else c }
      ∧ ∀ i, s.irq i = true ↔ ∃ c, s.channels[i]? = some c ∧ c.intr = true ∧ c.inte = true ∧ c.action = .host

/-- R245: after `Settle`, no armed channel has reached its target and no `SCAN` channel requests, whatever the state before. -/
def Obligations.SettleLeavesNothingDue : Prop :=
  ∀ s t : State, settle s = some t → t.settled

/-- R246: `Settle` ends within `3 * NALM` services wherever every registered interval is at least the floor and the counter is
below the wrap region. -/
def Obligations.SettleTerminates : Prop :=
  ∀ s : State, 1 ≤ s.params.floorUs.toNat → s.counter.toNat < Config.wrapLimit → s.channels.length = s.params.nalm →
    (∀ c ∈ s.channels, c.action ≠ .none → s.params.floorUs.toNat ≤ c.interval.toNat) →
    ∃ t, settle s = some t

/-! ## Steps. What is scheduled is the model's field `agenda` (assumption 2), the pin levels `pinIn` (assumption 4), the value a
read returns `readData` (assumption 3). -/

/-- R11 and R85: a scheduled transaction of four bytes runs the operation that its word decodes to, at the pin levels of the
step, and then `Settle` (model's choice, assumptions 2 and 3: the schedule and the returned value are fields of the state). -/
def Obligations.StepRunsTheDecodedOperation : Prop :=
  ∀ (s : State) (w : OpWord) (pins : Word) (rest : List EnvStep) (i : Instr),
    s.agenda = { action := .access 4 w, pins := pins } :: rest → decode w = .ok i →
    step s = finish (exec i { s with agenda := rest, pinIn := pins, readData := none })
      ∧ ∀ u t, exec i { s with agenda := rest, pinIn := pins, readData := none } = .next u → settle u = some t →
          step s = .next t

/-- R195: a tick adds one to the counter and then settles. -/
def Obligations.TickAdvancesTheCounter : Prop :=
  ∀ (s : State) (pins : Word) (rest : List EnvStep), s.inv →
    s.agenda = { action := .tick, pins := pins } :: rest → s.counter.toNat + 1 < Config.wrapLimit →
    ∃ t, step s = .next t ∧ t.counter.toNat = s.counter.toNat + 1
      ∧ settle { s with agenda := rest, pinIn := pins, readData := none, counter := s.counter + 1#64 } = some t

/-- R260 (R62, R195, R202): the steps that are refused are exactly the accesses of another size or alignment and the ticks that
would bring the counter to the wrap limit. -/
def Obligations.RefusedSteps : Prop :=
  ∀ (s : State) (a : EnvAction), (nextEnvStep s).1 = a → ∀ r,
    step s = .refused r ↔
      (a = .tick ∧ Config.wrapLimit ≤ s.counter.toNat + 1 ∧ r = .counterWrapRegion)
        ∨ ∃ size w, a = .access size w ∧ (size ≠ 4 ∨ (opAddr w).toNat % 4 ≠ 0) ∧ r = .subWordOrMisaligned

/-- R280, R54: a reset step puts every element of the block to its reset value, and every line is low. -/
def Obligations.ResetValues : Prop :=
  ∀ (s : State) (pins : Word) (rest : List EnvStep), s.agenda = { action := .reset, pins := pins } :: rest →
    ∃ t, step s = .next t ∧ (∀ i, t.irq i = false) ∧ t =
      { params := s.params, counter := 0#64
        channels := List.replicate s.params.nalm
          { target := 0#64, interval := 0#32, param := 0#32, repeating := false, action := .none, armed := false,
            insvc := false, rearmOk := false, intr := false, inte := false }
        almIntervalStg := 0#32, almParamStg := 0#32, almStatus := 0#2
        buttons := List.replicate s.params.nbtn
          { cfg := { ah := false, mc := false, hs := 10, fs := 1, af := 0, r := 0, rs := 0, l := 0, ll := 0 },
            en := false, raw := 0#64, filt := 0#64, rep := 0#8 }
        btnStageA := 0#32, btnStageB := 0#32, scanSkip := 0#16, skipRem := 0#16, scanCnt := 0#32, evq := []
        pinIn := pins, agenda := rest, draws := s.draws, readData := none }

/-- R53: the state after reset satisfies the invariant, for every legal choice of the parameters, and so does the model's
`State.reset` (the instance of assumption 1). -/
def Obligations.ResetSatisfiesTheInvariant : Prop :=
  (∀ p : Params, p.wf → (State.resetOf p).inv) ∧ State.reset.inv

/-- R53: every step keeps the invariant, from every state that satisfies it. -/
def Obligations.EveryStepKeepsTheInvariant : Prop :=
  ∀ s t : State, s.inv → step s = .next t → t.inv

/-- R255, R246: in every state that satisfies the invariant, no step faults: it answers a next state or is one of the steps
the spec refuses. -/
def Obligations.NoStepFaults : Prop :=
  ∀ s : State, s.inv → (∃ t, step s = .next t) ∨ ∃ r, step s = .refused r

/-- R67: in a settled state, a step that is a read other than `EVQ_POP` completes, returns what the register map holds at the
address, and changes no element of the block. -/
def Obligations.QuietReadsChangeNothing : Prop :=
  ∀ (s : State) (i : Instr) (pins : Word) (rest : List EnvStep), s.settled → i.wellFormed = true →
    Instr.quietRead i = true → s.agenda = { action := .access 4 (encode i), pins := pins } :: rest →
    step s = .next { s with agenda := rest, pinIn := pins, readData := some (registerAt s (opAddr (encode i))) }

/-- R69: a read of an address that the map does not list as readable returns 0 and changes nothing, and a write to one that it
does not list as writable is ignored; so do the reads of the blocks of channels at `NALM` and above and of buttons at `NBTN` and
above. -/
def Obligations.UnmappedAccesses : Prop :=
  ∀ (s : State) (a : Addr) (d : Word), a.toNat % 4 = 0 →
    (namedRead a = false → decode (packOp false a d) = .ok (.rdUnmapped a)
        ∧ exec (.rdUnmapped a) s = .next { s with readData := some 0#32 })
      ∧ (namedWrite a = false → decode (packOp true a d) = .ok (.wrUnmapped a) ∧ exec (.wrUnmapped a) s = .next s)
      ∧ (0x100 + 0x20 * s.params.nalm ≤ a.toNat → a.toNat < 0x200 → ∃ i, decode (packOp false a d) = .ok i
          ∧ exec i s = .next { s with readData := some 0#32 })
      ∧ (0x400 + 0x20 * s.params.nbtn ≤ a.toNat → a.toNat < 0x800 → ∃ i, decode (packOp false a d) = .ok i
          ∧ exec i s = .next { s with readData := some 0#32 })
      ∧ encode (.rdUnmapped a) = packOp false a 0#32 ∧ encode (.wrUnmapped a) = packOp true a 0#32

/-! ## Rules about every step, scheduled or drawn: `(nextEnvStep s).1` is what the environment asks of the step (assumption 2). -/

/-- R195, R199: the counter is changed by a tick, which adds 1, and by a reset, which clears it, and by no other step; the
parameters (assumption 1) are changed by none. -/
def Obligations.OnlyTicksMoveTheCounter : Prop :=
  ∀ (s t : State) (a : EnvAction), (nextEnvStep s).1 = a → step s = .next t →
    t.params = s.params
      ∧ (a = .tick → t.counter = s.counter + 1#64)
      ∧ (a = .reset → t.counter = 0#64)
      ∧ (a ≠ .tick → a ≠ .reset → t.counter = s.counter)

/-- R23: the configuration and the enable of button `b` are changed by no step but a reset and a `BTN_CMD` write that names
`b`. -/
def Obligations.ConfigurationIsSetByConstructionOnly : Prop :=
  ∀ (s t : State) (a : EnvAction) (b : Nat) (x : Button),
    (nextEnvStep s).1 = a → step s = .next t → a ≠ .reset →
    (∀ w, a = .access 4 w → ¬(opRw w = true ∧ opAddr w = 0x0A8#12 ∧ (opData w).toNat % 256 = b)) →
    s.buttons[b]? = some x →
    ∃ y, t.buttons[b]? = some y ∧ y.cfg = x.cfg ∧ y.en = x.en

/-- R182, R189: a queued event leaves the queue by a poll or a reset only, and from the head only: any other step leaves the
queue as it was, with events added at the tail. -/
def Obligations.EventsLeaveOnlyByPollOrReset : Prop :=
  ∀ (s t : State) (a : EnvAction), (nextEnvStep s).1 = a → step s = .next t → a ≠ .reset →
    ((∀ w, a = .access 4 w → ¬(opRw w = false ∧ opAddr w = 0x090#12)) → ∃ ws, t.evq = s.evq ++ ws)
      ∧ ∃ ws, t.evq = s.evq ++ ws ∨ t.evq = s.evq.tail ++ ws

/-- R215, R222: `ALM_STATUS` holds the result of the latest `ALM_CMD` or `ALM_EOI` write: no other step but a reset changes
it. -/
def Obligations.StatusIsSetByCommandsOnly : Prop :=
  ∀ (s t : State) (a : EnvAction), (nextEnvStep s).1 = a → step s = .next t → a ≠ .reset →
    (∀ w, a = .access 4 w → ¬(opRw w = true ∧ (opAddr w = 0x048#12 ∨ opAddr w = 0x050#12))) →
    t.almStatus = s.almStatus

/-- R227, R212: the interval, the parameter and the repeat flag of channel `i` are changed by no step but a reset and an
`ALM_CMD` write that names `i`. -/
def Obligations.RegistrationOwnsTheAlarmRecord : Prop :=
  ∀ (s t : State) (a : EnvAction) (i : Nat) (c : Channel),
    (nextEnvStep s).1 = a → step s = .next t → a ≠ .reset →
    (∀ w, a = .access 4 w → ¬(opRw w = true ∧ opAddr w = 0x048#12 ∧ (opData w).toNat / 256 % 256 = i)) →
    s.channels[i]? = some c →
    ∃ d, t.channels[i]? = some d ∧ d.interval = c.interval ∧ d.param = c.param ∧ d.repeating = c.repeating

/-- R230 with R217: the status bit of a channel is set by a fire only. A channel whose bit is 0 before a step and 1 after it was
armed before the step, or the step armed it: a set command that names it, or the end of a service that rearms it; and after the
step it is disarmed, and the counter has reached its target. -/
def Obligations.StatusBitsAreSetByFiresOnly : Prop :=
  ∀ (s t : State) (a : EnvAction) (i : Nat) (c d : Channel), (nextEnvStep s).1 = a → step s = .next t →
    s.channels[i]? = some c → t.channels[i]? = some d → c.intr = false → d.intr = true →
    (d.armed = false ∧ d.target.toNat ≤ t.counter.toNat)
      ∧ (c.armed = true
          ∨ ∃ w, a = .access 4 w ∧ opRw w = true
              ∧ ((opAddr w = 0x048#12 ∧ ((opData w).toNat % 4 = 1 ∨ (opData w).toNat % 4 = 2)
                    ∧ (opData w).toNat / 256 % 256 = i)
                ∨ (opAddr w = 0x050#12 ∧ (opData w).toNat % 256 = i
                    ∧ c.insvc = true ∧ c.rearmOk = true ∧ c.repeating = true)))

/-- R218: in a tick step, an armed `HOST` channel fires if the counter reaches its target, and stays as it is otherwise. -/
def Obligations.HostAlarmFiresAtItsTarget : Prop :=
  ∀ (s : State) (pins : Word) (rest : List EnvStep) (i : Nat) (c : Channel), s.inv →
    s.agenda = { action := .tick, pins := pins } :: rest → s.counter.toNat + 1 < Config.wrapLimit →
    s.channels[i]? = some c → c.armed = true → c.action = .host →
    ∃ t, step s = .next t
      ∧ t.channels[i]? = some (if c.target.toNat ≤ s.counter.toNat + 1 then { c with intr := true, armed := false } else c)
      ∧ t.irq i = (decide (c.target.toNat ≤ s.counter.toNat + 1) && c.inte)

/-- R219, R240, R245: the reference deployment. In the tick that reaches the target of an enabled `SCAN` channel, where no
other comparator matches, the block runs one group scan, and then arms a repeating channel at its old target plus its interval
and frees a one-shot channel. -/
def Obligations.ScanAlarmScansAtItsTarget : Prop :=
  ∀ (s : State) (pins : Word) (rest : List EnvStep) (i : Nat) (c : Channel), s.inv →
    s.agenda = { action := .tick, pins := pins } :: rest → s.counter.toNat + 1 < Config.wrapLimit →
    s.channels[i]? = some c → c.armed = true → c.action = .scan → c.inte = true →
    c.target = s.counter + 1#64 →
    (∀ j d, j ≠ i → s.channels[j]? = some d → d.due (s.counter + 1#64) = false) →
    step s = .next { groupScan { s with agenda := rest, pinIn := pins, readData := none, counter := s.counter + 1#64 } with
      channels := s.channels.set i
        (if c.repeating then { c with target := BitVec.ofNat 64 (c.target.toNat + c.interval.toNat) }
         else { c with action := .none, armed := false, inte := false }) }

/-- R248: after the step of a legal clear, the channel is free, neither armed nor pending nor enabled, and its line is low;
a callback in flight stays in service. -/
def Obligations.ClearedAlarmIsSilent : Prop :=
  ∀ (s : State) (pins : Word) (rest : List EnvStep) (id : BitVec 8) (c : Channel), s.inv → id.toNat < s.params.nalm →
    s.agenda = { action := .access 4 (encode (.almClear id)), pins := pins } :: rest → s.channels[id.toNat]? = some c →
    ∃ t, step s = .next t ∧ t.irq id.toNat = false
      ∧ t.channels[id.toNat]? = some
          { c with action := .none, armed := false, inte := false, intr := false, rearmOk := false }

/-! ## Decoding -/

/-- R85 to R90: decoding the word of a well-formed operation gives the operation back, with every operand at every value. -/
def Obligations.DecodeOfEncode : Prop :=
  ∀ i : Instr, i.wellFormed = true → decode (encode i) = .ok i

/-- R86: decoding is total on the words with an aligned address and gives one row: the word lies in the row of the operation it
decodes to, the operation is well formed, and where the row is a catch-all no named row takes the word; the named rows are
pairwise disjoint. -/
def Obligations.DecodeFollowsTheOpcodeTable : Prop :=
  (∀ t : OpWord, (∃ i, decode t = .ok i) ↔ (opAddr t).toNat % 4 = 0)
    ∧ (∀ (t : OpWord) (i : Instr), decode t = .ok i →
        t &&& (opcodeRow i).1 = (opcodeRow i).2 ∧ i.wellFormed = true
          ∧ (opcodeRow i ∈ namedRows ∨ ∀ r ∈ namedRows, t &&& r.1 ≠ r.2))
    ∧ ∀ t : OpWord, (namedRows.countP fun r => t &&& r.1 == r.2) ≤ 1

/-- R87, R95 to R105: the operands of every write, as fields of its data word, whatever the bits that the row ignores. -/
def Obligations.WriteOperandsAreDataFields : Prop :=
  ∀ d : Word,
    decode (packOp true 0x020#12 d) = .ok (.wrIntr (BitVec.ofNat 8 d.toNat))
      ∧ decode (packOp true 0x024#12 d) = .ok (.wrInte (BitVec.ofNat 8 d.toNat))
      ∧ decode (packOp true 0x028#12 d) = .ok (.wrInteSet (BitVec.ofNat 8 d.toNat))
      ∧ decode (packOp true 0x02C#12 d) = .ok (.wrInteClr (BitVec.ofNat 8 d.toNat))
      ∧ decode (packOp true 0x040#12 d) = .ok (.wrAlmInterval d)
      ∧ decode (packOp true 0x044#12 d) = .ok (.wrAlmParam d)
      ∧ decode (packOp true 0x0A0#12 d) = .ok (.wrBtnStageA d)
      ∧ decode (packOp true 0x0A4#12 d) = .ok (.wrBtnStageB d)
      ∧ decode (packOp true 0x050#12 d) = .ok (.wrAlmEoi (BitVec.ofNat 8 d.toNat))
      ∧ decode (packOp true 0x080#12 d) = .ok (.wrGrpCfg (BitVec.ofNat 16 d.toNat))
      ∧ decode (packOp true 0x084#12 d) = .ok .wrGrpScan
      ∧ decode (packOp true 0x0A8#12 d) = .ok (.wrBtnCmd (BitVec.ofNat 8 d.toNat) (decide (d.toNat / 256 % 2 = 1)))
      ∧ decode (packOp true 0x048#12 d) = .ok
          (if d.toNat % 4 = 0 then .almClear (BitVec.ofNat 8 (d.toNat / 256))
           else if d.toNat % 4 = 1 then .almSetOneshot (BitVec.ofNat 2 (d.toNat / 4)) (BitVec.ofNat 8 (d.toNat / 256))
           else if d.toNat % 4 = 2 then .almSetRepeating (BitVec.ofNat 2 (d.toNat / 4)) (BitVec.ofNat 8 (d.toNat / 256))
           else .almCmdRsvd (BitVec.ofNat 8 (d.toNat / 256)))

/-- R85, R90: a few operation words written out by hand from the map and the layouts, and what they stand for: `RD TIMELR`,
`WR BTN_CMD, 0x100`, `WR ALM_CMD, 0x0105`, `WR ALM_CMD, 0x000A`, `RD BTN1_RAW_LO`, `RD ALM2_CTRL`, `WR INTR, 2`, a read and a
write that the map does not list, and a misaligned access. -/
def Obligations.WrittenOutWords : Prop :=
  decode 0x001000000000#45 = .ok .rdTimelr
    ∧ decode 0x10A800000100#45 = .ok (.wrBtnCmd 0#8 true)
    ∧ decode 0x104800000105#45 = .ok (.almSetOneshot 1#2 1#8)
    ∧ decode 0x10480000000A#45 = .ok (.almSetRepeating 2#2 0#8)
    ∧ decode 0x042800000000#45 = .ok (.rdBtnRawLo 1#5)
    ∧ decode 0x015000000000#45 = .ok (.rdAlmCtrl 2#3)
    ∧ decode 0x102000000002#45 = .ok (.wrIntr 2#8)
    ∧ decode 0x00C000000000#45 = .ok (.rdUnmapped 0x0C0#12)
    ∧ decode 0x100000000000#45 = .ok (.wrUnmapped 0x000#12)
    ∧ decode 0x001100000000#45 = .error .misaligned

/-! ## The host's clock read -/

/-- R198, R112, R199: one pass of `CLOCK.READ` on the block, with any steps before it and any but resets between its three reads. If the
high half is the same at the first and the third read, the loop returns the counter as it stands at the second; otherwise it
goes on with a new pass. The reads are made at the pin levels the state holds (model's choice, assumption 14). -/
def Obligations.ClockReadLoopsUntilTheHalvesAgree : Prop :=
  ∀ (s a1 t1 a2 t2 a3 t3 : State) (g1 g2 g3 : List EnvStep) (rest : List (List EnvStep)),
    (∀ e ∈ g2 ++ g3, e.action ≠ .reset) →
    takeSteps g1 s = .next a1 → hostIssues .rdTimehr a1 = .next t1 →
    takeSteps g2 t1 = .next a2 → hostIssues .rdTimelr a2 = .next t2 →
    takeSteps g3 t2 = .next a3 → hostIssues .rdTimehr a3 = .next t3 →
    clockReadLoop (g1 :: g2 :: g3 :: rest) .start s =
      if hiHalf a1.counter = hiHalf a3.counter then .next (.done a2.counter, t3) else clockReadLoop rest .start t3
end

