-- ==== Sys2Proof/Laws/Decode.lean ====
section
/-! SUPPORT. The fields of an operation word (30_encoding.md R85). -/

namespace Sys2Proof

theorem packOp_getLsbD (rw : Bool) (a : Addr) (d : Word) (i : Nat) :
    (packOp rw a d).getLsbD i = if i < 32 then d.getLsbD i else if i < 44 then a.getLsbD (i - 32)
      else (decide (i = 44) && rw) := by
  unfold packOp
  rw [BitVec.getLsbD_append, BitVec.getLsbD_append, BitVec.getLsbD_ofBool]
  by_cases h1 : i < 32
  · rw [if_pos h1, if_pos h1]
  · rw [if_neg h1, if_neg h1]
    by_cases h2 : i < 44
    · rw [if_pos h2, if_pos (by omega)]
    · rw [if_neg h2, if_neg (by omega)]
      congr 1
      exact decide_eq_decide.mpr (by omega)

@[simp] theorem opRw_packOp (rw : Bool) (a : Addr) (d : Word) : opRw (packOp rw a d) = rw := by
  simp [opRw, -BitVec.getLsbD_eq_getElem, packOp_getLsbD]

@[simp] theorem opAddr_packOp (rw : Bool) (a : Addr) (d : Word) : opAddr (packOp rw a d) = a := by
  apply BitVec.eq_of_getLsbD_eq
  intro i hi
  rw [opAddr, BitVec.getLsbD_extractLsb', packOp_getLsbD]
  simp [-BitVec.getLsbD_eq_getElem, hi, (by omega : 32 + i < 44)]

@[simp] theorem opData_packOp (rw : Bool) (a : Addr) (d : Word) : opData (packOp rw a d) = d := by
  apply BitVec.eq_of_getLsbD_eq
  intro i hi
  rw [opData, BitVec.getLsbD_extractLsb', packOp_getLsbD]
  simp [-BitVec.getLsbD_eq_getElem, hi]

/-- A word is put together from its fields. -/
theorem packOp_fields (t : OpWord) : packOp (opRw t) (opAddr t) (opData t) = t := by
  apply BitVec.eq_of_getLsbD_eq
  intro i hi
  rw [packOp_getLsbD]
  by_cases h1 : i < 32
  · simp [-BitVec.getLsbD_eq_getElem, h1, opData]
  · by_cases h2 : i < 44
    · simp [-BitVec.getLsbD_eq_getElem, h1, h2, opAddr, (by omega : i - 32 < 12), (by omega : 32 + (i - 32) = i)]
    · have : i = 44 := by omega
      subst this; simp [-BitVec.getLsbD_eq_getElem, opRw]

/-- The mask of a row without data bits keeps the direction and the address. -/
theorem packOp_and_addrMask (rw : Bool) (a : Addr) (d : Word) :
    packOp rw a d &&& 0x1FFF00000000#45 = packOp rw a 0#32 := by
  apply BitVec.eq_of_getLsbD_eq
  intro i hi
  rw [BitVec.getLsbD_and, packOp_getLsbD, packOp_getLsbD]
  interval_cases i <;> simp [-BitVec.getLsbD_eq_getElem, BitVec.getLsbD_ofNat, Nat.testBit]

/-- The mask of a row of `ALM_CMD` keeps the direction, the address and the op-code. -/
theorem packOp_and_cmdMask (rw : Bool) (a : Addr) (d : Word) :
    packOp rw a d &&& 0x1FFF00000003#45 = packOp rw a (d &&& 3#32) := by
  apply BitVec.eq_of_getLsbD_eq
  intro i hi
  rw [BitVec.getLsbD_and, packOp_getLsbD, packOp_getLsbD]
  interval_cases i <;> simp [-BitVec.getLsbD_eq_getElem, BitVec.getLsbD_ofNat, Nat.testBit]

/-- The op-code field of an `ALM_CMD` data word. -/
theorem almCmdData_and_three (op act : BitVec 2) (id : BitVec 8) : almCmdData op act id &&& 3#32 = op.setWidth 32 := by
  apply BitVec.eq_of_getLsbD_eq
  intro i hi
  interval_cases i <;> simp [almCmdData]

@[simp] theorem almCmdData_op (op act : BitVec 2) (id : BitVec 8) : (almCmdData op act id).extractLsb' 0 2 = op := by
  apply BitVec.eq_of_getLsbD_eq
  intro i hi
  interval_cases i <;> simp [almCmdData]

@[simp] theorem almCmdData_act (op act : BitVec 2) (id : BitVec 8) : (almCmdData op act id).extractLsb' 2 2 = act := by
  apply BitVec.eq_of_getLsbD_eq
  intro i hi
  interval_cases i <;> simp [almCmdData]

@[simp] theorem almCmdData_id (op act : BitVec 2) (id : BitVec 8) : (almCmdData op act id).extractLsb' 8 8 = id := by
  apply BitVec.eq_of_getLsbD_eq
  intro i hi
  interval_cases i <;> simp [almCmdData]

@[simp] theorem btnCmdData_index (index : BitVec 8) (en : Bool) : (btnCmdData index en).extractLsb' 0 8 = index := by
  apply BitVec.eq_of_getLsbD_eq
  intro i hi
  interval_cases i <;> simp [btnCmdData]

@[simp] theorem btnCmdData_en (index : BitVec 8) (en : Bool) : (btnCmdData index en).getLsbD 8 = en := by
  simp [btnCmdData]

end Sys2Proof
end

