-- ==== Sys2Proof/Laws/State.lean ====
section
/-! SUPPORT. What each named update of the state leaves in each field: one lemma per field per update, all true by `rfl`, so
that no proof unfolds a record update. -/

namespace Sys2Proof.Machine

/-! ### `respond` -/

@[simp] theorem State.respond_params (s : State) (v : Word) : (s.respond v).params = s.params := rfl
@[simp] theorem State.respond_counter (s : State) (v : Word) : (s.respond v).counter = s.counter := rfl
@[simp] theorem State.respond_channels (s : State) (v : Word) : (s.respond v).channels = s.channels := rfl
@[simp] theorem State.respond_almIntervalStg (s : State) (v : Word) : (s.respond v).almIntervalStg = s.almIntervalStg := rfl
@[simp] theorem State.respond_almParamStg (s : State) (v : Word) : (s.respond v).almParamStg = s.almParamStg := rfl
@[simp] theorem State.respond_almStatus (s : State) (v : Word) : (s.respond v).almStatus = s.almStatus := rfl
@[simp] theorem State.respond_buttons (s : State) (v : Word) : (s.respond v).buttons = s.buttons := rfl
@[simp] theorem State.respond_btnStageA (s : State) (v : Word) : (s.respond v).btnStageA = s.btnStageA := rfl
@[simp] theorem State.respond_btnStageB (s : State) (v : Word) : (s.respond v).btnStageB = s.btnStageB := rfl
@[simp] theorem State.respond_scanSkip (s : State) (v : Word) : (s.respond v).scanSkip = s.scanSkip := rfl
@[simp] theorem State.respond_skipRem (s : State) (v : Word) : (s.respond v).skipRem = s.skipRem := rfl
@[simp] theorem State.respond_scanCnt (s : State) (v : Word) : (s.respond v).scanCnt = s.scanCnt := rfl
@[simp] theorem State.respond_evq (s : State) (v : Word) : (s.respond v).evq = s.evq := rfl
@[simp] theorem State.respond_pinIn (s : State) (v : Word) : (s.respond v).pinIn = s.pinIn := rfl
@[simp] theorem State.respond_agenda (s : State) (v : Word) : (s.respond v).agenda = s.agenda := rfl
@[simp] theorem State.respond_draws (s : State) (v : Word) : (s.respond v).draws = s.draws := rfl
@[simp] theorem State.respond_readData (s : State) (v : Word) : (s.respond v).readData = some v := rfl

/-! ### `modifyButton` -/

@[simp] theorem State.modifyButton_params (s : State) (b : Nat) (f : Button → Button) :
    (s.modifyButton b f).params = s.params := rfl
@[simp] theorem State.modifyButton_counter (s : State) (b : Nat) (f : Button → Button) :
    (s.modifyButton b f).counter = s.counter := rfl
@[simp] theorem State.modifyButton_channels (s : State) (b : Nat) (f : Button → Button) :
    (s.modifyButton b f).channels = s.channels := rfl
@[simp] theorem State.modifyButton_almIntervalStg (s : State) (b : Nat) (f : Button → Button) :
    (s.modifyButton b f).almIntervalStg = s.almIntervalStg := rfl
@[simp] theorem State.modifyButton_almParamStg (s : State) (b : Nat) (f : Button → Button) :
    (s.modifyButton b f).almParamStg = s.almParamStg := rfl
@[simp] theorem State.modifyButton_almStatus (s : State) (b : Nat) (f : Button → Button) :
    (s.modifyButton b f).almStatus = s.almStatus := rfl
@[simp] theorem State.modifyButton_buttons (s : State) (b : Nat) (f : Button → Button) :
    (s.modifyButton b f).buttons = s.buttons.modify b f := rfl
@[simp] theorem State.modifyButton_btnStageA (s : State) (b : Nat) (f : Button → Button) :
    (s.modifyButton b f).btnStageA = s.btnStageA := rfl
@[simp] theorem State.modifyButton_btnStageB (s : State) (b : Nat) (f : Button → Button) :
    (s.modifyButton b f).btnStageB = s.btnStageB := rfl
@[simp] theorem State.modifyButton_scanSkip (s : State) (b : Nat) (f : Button → Button) :
    (s.modifyButton b f).scanSkip = s.scanSkip := rfl
@[simp] theorem State.modifyButton_skipRem (s : State) (b : Nat) (f : Button → Button) :
    (s.modifyButton b f).skipRem = s.skipRem := rfl
@[simp] theorem State.modifyButton_scanCnt (s : State) (b : Nat) (f : Button → Button) :
    (s.modifyButton b f).scanCnt = s.scanCnt := rfl
@[simp] theorem State.modifyButton_evq (s : State) (b : Nat) (f : Button → Button) : (s.modifyButton b f).evq = s.evq := rfl
@[simp] theorem State.modifyButton_pinIn (s : State) (b : Nat) (f : Button → Button) :
    (s.modifyButton b f).pinIn = s.pinIn := rfl
@[simp] theorem State.modifyButton_agenda (s : State) (b : Nat) (f : Button → Button) :
    (s.modifyButton b f).agenda = s.agenda := rfl
@[simp] theorem State.modifyButton_draws (s : State) (b : Nat) (f : Button → Button) :
    (s.modifyButton b f).draws = s.draws := rfl
@[simp] theorem State.modifyButton_readData (s : State) (b : Nat) (f : Button → Button) :
    (s.modifyButton b f).readData = s.readData := rfl

/-! ### `modifyChannel` -/

@[simp] theorem State.modifyChannel_params (s : State) (i : Nat) (f : Channel → Channel) :
    (s.modifyChannel i f).params = s.params := rfl
@[simp] theorem State.modifyChannel_counter (s : State) (i : Nat) (f : Channel → Channel) :
    (s.modifyChannel i f).counter = s.counter := rfl
@[simp] theorem State.modifyChannel_channels (s : State) (i : Nat) (f : Channel → Channel) :
    (s.modifyChannel i f).channels = s.channels.modify i f := rfl
@[simp] theorem State.modifyChannel_almIntervalStg (s : State) (i : Nat) (f : Channel → Channel) :
    (s.modifyChannel i f).almIntervalStg = s.almIntervalStg := rfl
@[simp] theorem State.modifyChannel_almParamStg (s : State) (i : Nat) (f : Channel → Channel) :
    (s.modifyChannel i f).almParamStg = s.almParamStg := rfl
@[simp] theorem State.modifyChannel_almStatus (s : State) (i : Nat) (f : Channel → Channel) :
    (s.modifyChannel i f).almStatus = s.almStatus := rfl
@[simp] theorem State.modifyChannel_buttons (s : State) (i : Nat) (f : Channel → Channel) :
    (s.modifyChannel i f).buttons = s.buttons := rfl
@[simp] theorem State.modifyChannel_btnStageA (s : State) (i : Nat) (f : Channel → Channel) :
    (s.modifyChannel i f).btnStageA = s.btnStageA := rfl
@[simp] theorem State.modifyChannel_btnStageB (s : State) (i : Nat) (f : Channel → Channel) :
    (s.modifyChannel i f).btnStageB = s.btnStageB := rfl
@[simp] theorem State.modifyChannel_scanSkip (s : State) (i : Nat) (f : Channel → Channel) :
    (s.modifyChannel i f).scanSkip = s.scanSkip := rfl
@[simp] theorem State.modifyChannel_skipRem (s : State) (i : Nat) (f : Channel → Channel) :
    (s.modifyChannel i f).skipRem = s.skipRem := rfl
@[simp] theorem State.modifyChannel_scanCnt (s : State) (i : Nat) (f : Channel → Channel) :
    (s.modifyChannel i f).scanCnt = s.scanCnt := rfl
@[simp] theorem State.modifyChannel_evq (s : State) (i : Nat) (f : Channel → Channel) :
    (s.modifyChannel i f).evq = s.evq := rfl
@[simp] theorem State.modifyChannel_pinIn (s : State) (i : Nat) (f : Channel → Channel) :
    (s.modifyChannel i f).pinIn = s.pinIn := rfl
@[simp] theorem State.modifyChannel_agenda (s : State) (i : Nat) (f : Channel → Channel) :
    (s.modifyChannel i f).agenda = s.agenda := rfl
@[simp] theorem State.modifyChannel_draws (s : State) (i : Nat) (f : Channel → Channel) :
    (s.modifyChannel i f).draws = s.draws := rfl
@[simp] theorem State.modifyChannel_readData (s : State) (i : Nat) (f : Channel → Channel) :
    (s.modifyChannel i f).readData = s.readData := rfl

/-! ### `mapChannels` -/

@[simp] theorem State.mapChannels_params (s : State) (f : Nat → Channel → Channel) :
    (s.mapChannels f).params = s.params := rfl
@[simp] theorem State.mapChannels_counter (s : State) (f : Nat → Channel → Channel) :
    (s.mapChannels f).counter = s.counter := rfl
@[simp] theorem State.mapChannels_channels (s : State) (f : Nat → Channel → Channel) :
    (s.mapChannels f).channels = s.channels.mapIdx f := rfl
@[simp] theorem State.mapChannels_almIntervalStg (s : State) (f : Nat → Channel → Channel) :
    (s.mapChannels f).almIntervalStg = s.almIntervalStg := rfl
@[simp] theorem State.mapChannels_almParamStg (s : State) (f : Nat → Channel → Channel) :
    (s.mapChannels f).almParamStg = s.almParamStg := rfl
@[simp] theorem State.mapChannels_almStatus (s : State) (f : Nat → Channel → Channel) :
    (s.mapChannels f).almStatus = s.almStatus := rfl
@[simp] theorem State.mapChannels_buttons (s : State) (f : Nat → Channel → Channel) :
    (s.mapChannels f).buttons = s.buttons := rfl
@[simp] theorem State.mapChannels_btnStageA (s : State) (f : Nat → Channel → Channel) :
    (s.mapChannels f).btnStageA = s.btnStageA := rfl
@[simp] theorem State.mapChannels_btnStageB (s : State) (f : Nat → Channel → Channel) :
    (s.mapChannels f).btnStageB = s.btnStageB := rfl
@[simp] theorem State.mapChannels_scanSkip (s : State) (f : Nat → Channel → Channel) :
    (s.mapChannels f).scanSkip = s.scanSkip := rfl
@[simp] theorem State.mapChannels_skipRem (s : State) (f : Nat → Channel → Channel) :
    (s.mapChannels f).skipRem = s.skipRem := rfl
@[simp] theorem State.mapChannels_scanCnt (s : State) (f : Nat → Channel → Channel) :
    (s.mapChannels f).scanCnt = s.scanCnt := rfl
@[simp] theorem State.mapChannels_evq (s : State) (f : Nat → Channel → Channel) : (s.mapChannels f).evq = s.evq := rfl
@[simp] theorem State.mapChannels_pinIn (s : State) (f : Nat → Channel → Channel) : (s.mapChannels f).pinIn = s.pinIn := rfl
@[simp] theorem State.mapChannels_agenda (s : State) (f : Nat → Channel → Channel) :
    (s.mapChannels f).agenda = s.agenda := rfl
@[simp] theorem State.mapChannels_draws (s : State) (f : Nat → Channel → Channel) : (s.mapChannels f).draws = s.draws := rfl
@[simp] theorem State.mapChannels_readData (s : State) (f : Nat → Channel → Channel) :
    (s.mapChannels f).readData = s.readData := rfl

/-! ### `setAlmStatus` -/

@[simp] theorem State.setAlmStatus_params (s : State) (v : BitVec 2) : (s.setAlmStatus v).params = s.params := rfl
@[simp] theorem State.setAlmStatus_counter (s : State) (v : BitVec 2) : (s.setAlmStatus v).counter = s.counter := rfl
@[simp] theorem State.setAlmStatus_channels (s : State) (v : BitVec 2) : (s.setAlmStatus v).channels = s.channels := rfl
@[simp] theorem State.setAlmStatus_almIntervalStg (s : State) (v : BitVec 2) :
    (s.setAlmStatus v).almIntervalStg = s.almIntervalStg := rfl
@[simp] theorem State.setAlmStatus_almParamStg (s : State) (v : BitVec 2) :
    (s.setAlmStatus v).almParamStg = s.almParamStg := rfl
@[simp] theorem State.setAlmStatus_almStatus (s : State) (v : BitVec 2) : (s.setAlmStatus v).almStatus = v := rfl
@[simp] theorem State.setAlmStatus_buttons (s : State) (v : BitVec 2) : (s.setAlmStatus v).buttons = s.buttons := rfl
@[simp] theorem State.setAlmStatus_btnStageA (s : State) (v : BitVec 2) : (s.setAlmStatus v).btnStageA = s.btnStageA := rfl
@[simp] theorem State.setAlmStatus_btnStageB (s : State) (v : BitVec 2) : (s.setAlmStatus v).btnStageB = s.btnStageB := rfl
@[simp] theorem State.setAlmStatus_scanSkip (s : State) (v : BitVec 2) : (s.setAlmStatus v).scanSkip = s.scanSkip := rfl
@[simp] theorem State.setAlmStatus_skipRem (s : State) (v : BitVec 2) : (s.setAlmStatus v).skipRem = s.skipRem := rfl
@[simp] theorem State.setAlmStatus_scanCnt (s : State) (v : BitVec 2) : (s.setAlmStatus v).scanCnt = s.scanCnt := rfl
@[simp] theorem State.setAlmStatus_evq (s : State) (v : BitVec 2) : (s.setAlmStatus v).evq = s.evq := rfl
@[simp] theorem State.setAlmStatus_pinIn (s : State) (v : BitVec 2) : (s.setAlmStatus v).pinIn = s.pinIn := rfl
@[simp] theorem State.setAlmStatus_agenda (s : State) (v : BitVec 2) : (s.setAlmStatus v).agenda = s.agenda := rfl
@[simp] theorem State.setAlmStatus_draws (s : State) (v : BitVec 2) : (s.setAlmStatus v).draws = s.draws := rfl
@[simp] theorem State.setAlmStatus_readData (s : State) (v : BitVec 2) : (s.setAlmStatus v).readData = s.readData := rfl

/-! ### `begin` -/

@[simp] theorem State.begin_params (s : State) (p : Word) : (s.begin p).params = s.params := rfl
@[simp] theorem State.begin_counter (s : State) (p : Word) : (s.begin p).counter = s.counter := rfl
@[simp] theorem State.begin_channels (s : State) (p : Word) : (s.begin p).channels = s.channels := rfl
@[simp] theorem State.begin_almIntervalStg (s : State) (p : Word) : (s.begin p).almIntervalStg = s.almIntervalStg := rfl
@[simp] theorem State.begin_almParamStg (s : State) (p : Word) : (s.begin p).almParamStg = s.almParamStg := rfl
@[simp] theorem State.begin_almStatus (s : State) (p : Word) : (s.begin p).almStatus = s.almStatus := rfl
@[simp] theorem State.begin_buttons (s : State) (p : Word) : (s.begin p).buttons = s.buttons := rfl
@[simp] theorem State.begin_btnStageA (s : State) (p : Word) : (s.begin p).btnStageA = s.btnStageA := rfl
@[simp] theorem State.begin_btnStageB (s : State) (p : Word) : (s.begin p).btnStageB = s.btnStageB := rfl
@[simp] theorem State.begin_scanSkip (s : State) (p : Word) : (s.begin p).scanSkip = s.scanSkip := rfl
@[simp] theorem State.begin_skipRem (s : State) (p : Word) : (s.begin p).skipRem = s.skipRem := rfl
@[simp] theorem State.begin_scanCnt (s : State) (p : Word) : (s.begin p).scanCnt = s.scanCnt := rfl
@[simp] theorem State.begin_evq (s : State) (p : Word) : (s.begin p).evq = s.evq := rfl
@[simp] theorem State.begin_pinIn (s : State) (p : Word) : (s.begin p).pinIn = p := rfl
@[simp] theorem State.begin_agenda (s : State) (p : Word) : (s.begin p).agenda = s.agenda := rfl
@[simp] theorem State.begin_draws (s : State) (p : Word) : (s.begin p).draws = s.draws := rfl
@[simp] theorem State.begin_readData (s : State) (p : Word) : (s.begin p).readData = none := rfl

/-! ### `fireAll` -/

@[simp] theorem fireAll_params (s : State) : (fireAll s).params = s.params := rfl
@[simp] theorem fireAll_counter (s : State) : (fireAll s).counter = s.counter := rfl
@[simp] theorem fireAll_channels (s : State) : (fireAll s).channels = s.channels.map (fireChannel s.counter) := rfl
@[simp] theorem fireAll_almIntervalStg (s : State) : (fireAll s).almIntervalStg = s.almIntervalStg := rfl
@[simp] theorem fireAll_almParamStg (s : State) : (fireAll s).almParamStg = s.almParamStg := rfl
@[simp] theorem fireAll_almStatus (s : State) : (fireAll s).almStatus = s.almStatus := rfl
@[simp] theorem fireAll_buttons (s : State) : (fireAll s).buttons = s.buttons := rfl
@[simp] theorem fireAll_btnStageA (s : State) : (fireAll s).btnStageA = s.btnStageA := rfl
@[simp] theorem fireAll_btnStageB (s : State) : (fireAll s).btnStageB = s.btnStageB := rfl
@[simp] theorem fireAll_scanSkip (s : State) : (fireAll s).scanSkip = s.scanSkip := rfl
@[simp] theorem fireAll_skipRem (s : State) : (fireAll s).skipRem = s.skipRem := rfl
@[simp] theorem fireAll_scanCnt (s : State) : (fireAll s).scanCnt = s.scanCnt := rfl
@[simp] theorem fireAll_evq (s : State) : (fireAll s).evq = s.evq := rfl
@[simp] theorem fireAll_pinIn (s : State) : (fireAll s).pinIn = s.pinIn := rfl
@[simp] theorem fireAll_agenda (s : State) : (fireAll s).agenda = s.agenda := rfl
@[simp] theorem fireAll_draws (s : State) : (fireAll s).draws = s.draws := rfl
@[simp] theorem fireAll_readData (s : State) : (fireAll s).readData = s.readData := rfl

/-! ### `register` -/

@[simp] theorem register_params (s : State) (i : Nat) (rep : Bool) (act : AlarmAction) :
    (register i rep act s).params = s.params := rfl
@[simp] theorem register_counter (s : State) (i : Nat) (rep : Bool) (act : AlarmAction) :
    (register i rep act s).counter = s.counter := rfl
@[simp] theorem register_channels (s : State) (i : Nat) (rep : Bool) (act : AlarmAction) :
    (register i rep act s).channels = s.channels.modify i (registerChannel s.params.floorUs s.almIntervalStg s.almParamStg s.counter rep act) := rfl
@[simp] theorem register_almIntervalStg (s : State) (i : Nat) (rep : Bool) (act : AlarmAction) :
    (register i rep act s).almIntervalStg = s.almIntervalStg := rfl
@[simp] theorem register_almParamStg (s : State) (i : Nat) (rep : Bool) (act : AlarmAction) :
    (register i rep act s).almParamStg = s.almParamStg := rfl
@[simp] theorem register_almStatus (s : State) (i : Nat) (rep : Bool) (act : AlarmAction) :
    (register i rep act s).almStatus = s.almStatus := rfl
@[simp] theorem register_buttons (s : State) (i : Nat) (rep : Bool) (act : AlarmAction) :
    (register i rep act s).buttons = s.buttons := rfl
@[simp] theorem register_btnStageA (s : State) (i : Nat) (rep : Bool) (act : AlarmAction) :
    (register i rep act s).btnStageA = s.btnStageA := rfl
@[simp] theorem register_btnStageB (s : State) (i : Nat) (rep : Bool) (act : AlarmAction) :
    (register i rep act s).btnStageB = s.btnStageB := rfl
@[simp] theorem register_scanSkip (s : State) (i : Nat) (rep : Bool) (act : AlarmAction) :
    (register i rep act s).scanSkip = s.scanSkip := rfl
@[simp] theorem register_skipRem (s : State) (i : Nat) (rep : Bool) (act : AlarmAction) :
    (register i rep act s).skipRem = s.skipRem := rfl
@[simp] theorem register_scanCnt (s : State) (i : Nat) (rep : Bool) (act : AlarmAction) :
    (register i rep act s).scanCnt = s.scanCnt := rfl
@[simp] theorem register_evq (s : State) (i : Nat) (rep : Bool) (act : AlarmAction) :
    (register i rep act s).evq = s.evq := rfl
@[simp] theorem register_pinIn (s : State) (i : Nat) (rep : Bool) (act : AlarmAction) :
    (register i rep act s).pinIn = s.pinIn := rfl
@[simp] theorem register_agenda (s : State) (i : Nat) (rep : Bool) (act : AlarmAction) :
    (register i rep act s).agenda = s.agenda := rfl
@[simp] theorem register_draws (s : State) (i : Nat) (rep : Bool) (act : AlarmAction) :
    (register i rep act s).draws = s.draws := rfl
@[simp] theorem register_readData (s : State) (i : Nat) (rep : Bool) (act : AlarmAction) :
    (register i rep act s).readData = s.readData := rfl

/-! ### `rearm` -/

@[simp] theorem rearm_params (s : State) (i : Nat) : (rearm i s).params = s.params := rfl
@[simp] theorem rearm_counter (s : State) (i : Nat) : (rearm i s).counter = s.counter := rfl
@[simp] theorem rearm_channels (s : State) (i : Nat) :
    (rearm i s).channels = s.channels.modify i (rearmChannel s.params.floorUs s.counter) := rfl
@[simp] theorem rearm_almIntervalStg (s : State) (i : Nat) : (rearm i s).almIntervalStg = s.almIntervalStg := rfl
@[simp] theorem rearm_almParamStg (s : State) (i : Nat) : (rearm i s).almParamStg = s.almParamStg := rfl
@[simp] theorem rearm_almStatus (s : State) (i : Nat) : (rearm i s).almStatus = s.almStatus := rfl
@[simp] theorem rearm_buttons (s : State) (i : Nat) : (rearm i s).buttons = s.buttons := rfl
@[simp] theorem rearm_btnStageA (s : State) (i : Nat) : (rearm i s).btnStageA = s.btnStageA := rfl
@[simp] theorem rearm_btnStageB (s : State) (i : Nat) : (rearm i s).btnStageB = s.btnStageB := rfl
@[simp] theorem rearm_scanSkip (s : State) (i : Nat) : (rearm i s).scanSkip = s.scanSkip := rfl
@[simp] theorem rearm_skipRem (s : State) (i : Nat) : (rearm i s).skipRem = s.skipRem := rfl
@[simp] theorem rearm_scanCnt (s : State) (i : Nat) : (rearm i s).scanCnt = s.scanCnt := rfl
@[simp] theorem rearm_evq (s : State) (i : Nat) : (rearm i s).evq = s.evq := rfl
@[simp] theorem rearm_pinIn (s : State) (i : Nat) : (rearm i s).pinIn = s.pinIn := rfl
@[simp] theorem rearm_agenda (s : State) (i : Nat) : (rearm i s).agenda = s.agenda := rfl
@[simp] theorem rearm_draws (s : State) (i : Nat) : (rearm i s).draws = s.draws := rfl
@[simp] theorem rearm_readData (s : State) (i : Nat) : (rearm i s).readData = s.readData := rfl

/-! ### `resetBlock` -/

@[simp] theorem resetBlock_params (s : State) : (resetBlock s).params = s.params := rfl
@[simp] theorem resetBlock_counter (s : State) : (resetBlock s).counter = (State.resetOf s.params).counter := rfl
@[simp] theorem resetBlock_channels (s : State) : (resetBlock s).channels = (State.resetOf s.params).channels := rfl
@[simp] theorem resetBlock_almIntervalStg (s : State) :
    (resetBlock s).almIntervalStg = (State.resetOf s.params).almIntervalStg := rfl
@[simp] theorem resetBlock_almParamStg (s : State) : (resetBlock s).almParamStg = (State.resetOf s.params).almParamStg := rfl
@[simp] theorem resetBlock_almStatus (s : State) : (resetBlock s).almStatus = (State.resetOf s.params).almStatus := rfl
@[simp] theorem resetBlock_buttons (s : State) : (resetBlock s).buttons = (State.resetOf s.params).buttons := rfl
@[simp] theorem resetBlock_btnStageA (s : State) : (resetBlock s).btnStageA = (State.resetOf s.params).btnStageA := rfl
@[simp] theorem resetBlock_btnStageB (s : State) : (resetBlock s).btnStageB = (State.resetOf s.params).btnStageB := rfl
@[simp] theorem resetBlock_scanSkip (s : State) : (resetBlock s).scanSkip = (State.resetOf s.params).scanSkip := rfl
@[simp] theorem resetBlock_skipRem (s : State) : (resetBlock s).skipRem = (State.resetOf s.params).skipRem := rfl
@[simp] theorem resetBlock_scanCnt (s : State) : (resetBlock s).scanCnt = (State.resetOf s.params).scanCnt := rfl
@[simp] theorem resetBlock_evq (s : State) : (resetBlock s).evq = (State.resetOf s.params).evq := rfl
@[simp] theorem resetBlock_pinIn (s : State) : (resetBlock s).pinIn = s.pinIn := rfl
@[simp] theorem resetBlock_agenda (s : State) : (resetBlock s).agenda = s.agenda := rfl
@[simp] theorem resetBlock_draws (s : State) : (resetBlock s).draws = s.draws := rfl
@[simp] theorem resetBlock_readData (s : State) : (resetBlock s).readData = (State.resetOf s.params).readData := rfl

/-! ### `groupScan`: it changes `SKIP_REM` alone, or the buttons, the queue and `SCAN_CNT` -/

@[simp] theorem groupScan_params (s : State) : (groupScan s).params = s.params := by unfold groupScan; split <;> rfl
@[simp] theorem groupScan_counter (s : State) : (groupScan s).counter = s.counter := by unfold groupScan; split <;> rfl
@[simp] theorem groupScan_channels (s : State) : (groupScan s).channels = s.channels := by unfold groupScan; split <;> rfl
@[simp] theorem groupScan_almIntervalStg (s : State) : (groupScan s).almIntervalStg = s.almIntervalStg := by unfold groupScan; split <;> rfl
@[simp] theorem groupScan_almParamStg (s : State) : (groupScan s).almParamStg = s.almParamStg := by unfold groupScan; split <;> rfl
@[simp] theorem groupScan_almStatus (s : State) : (groupScan s).almStatus = s.almStatus := by unfold groupScan; split <;> rfl
@[simp] theorem groupScan_btnStageA (s : State) : (groupScan s).btnStageA = s.btnStageA := by unfold groupScan; split <;> rfl
@[simp] theorem groupScan_btnStageB (s : State) : (groupScan s).btnStageB = s.btnStageB := by unfold groupScan; split <;> rfl
@[simp] theorem groupScan_scanSkip (s : State) : (groupScan s).scanSkip = s.scanSkip := by unfold groupScan; split <;> rfl
@[simp] theorem groupScan_pinIn (s : State) : (groupScan s).pinIn = s.pinIn := by unfold groupScan; split <;> rfl
@[simp] theorem groupScan_agenda (s : State) : (groupScan s).agenda = s.agenda := by unfold groupScan; split <;> rfl
@[simp] theorem groupScan_draws (s : State) : (groupScan s).draws = s.draws := by unfold groupScan; split <;> rfl
@[simp] theorem groupScan_readData (s : State) : (groupScan s).readData = s.readData := by unfold groupScan; split <;> rfl

/-! ### The reset state -/

@[simp] theorem State.resetOf_params (p : Params) : (State.resetOf p).params = p := rfl
@[simp] theorem State.resetOf_counter (p : Params) : (State.resetOf p).counter = 0 := rfl
@[simp] theorem State.resetOf_channels (p : Params) : (State.resetOf p).channels = List.replicate p.nalm Channel.reset := rfl
@[simp] theorem State.resetOf_almIntervalStg (p : Params) : (State.resetOf p).almIntervalStg = 0 := rfl
@[simp] theorem State.resetOf_almParamStg (p : Params) : (State.resetOf p).almParamStg = 0 := rfl
@[simp] theorem State.resetOf_almStatus (p : Params) : (State.resetOf p).almStatus = 0 := rfl
@[simp] theorem State.resetOf_buttons (p : Params) : (State.resetOf p).buttons = List.replicate p.nbtn Button.reset := rfl
@[simp] theorem State.resetOf_btnStageA (p : Params) : (State.resetOf p).btnStageA = 0 := rfl
@[simp] theorem State.resetOf_btnStageB (p : Params) : (State.resetOf p).btnStageB = 0 := rfl
@[simp] theorem State.resetOf_scanSkip (p : Params) : (State.resetOf p).scanSkip = 0 := rfl
@[simp] theorem State.resetOf_skipRem (p : Params) : (State.resetOf p).skipRem = 0 := rfl
@[simp] theorem State.resetOf_scanCnt (p : Params) : (State.resetOf p).scanCnt = 0 := rfl
@[simp] theorem State.resetOf_evq (p : Params) : (State.resetOf p).evq = [] := rfl
@[simp] theorem State.resetOf_pinIn (p : Params) : (State.resetOf p).pinIn = 0 := rfl
@[simp] theorem State.resetOf_agenda (p : Params) : (State.resetOf p).agenda = [] := rfl
@[simp] theorem State.resetOf_draws (p : Params) : (State.resetOf p).draws = 0 := rfl
@[simp] theorem State.resetOf_readData (p : Params) : (State.resetOf p).readData = none := rfl

end Sys2Proof.Machine
end

