-- ==== Sys2Proof/Laws/Ops.lean ====
section
/-! SUPPORT. For each shared operation over the state, what it can do, said once: the lemmas that later proofs cite instead of
unfolding the operation. -/

namespace Sys2Proof.Machine

/-! ## The register files -/

theorem State.button?_eq_some {s : State} {b : Nat} {x : Button} :
    s.button? b = some x ↔ b < s.params.nbtn ∧ s.buttons[b]? = some x := by
  simp [State.button?]

theorem State.channel?_eq_some {s : State} {i : Nat} {c : Channel} :
    s.channel? i = some c ↔ i < s.params.nalm ∧ s.channels[i]? = some c := by
  simp [State.channel?]

theorem State.buttonView_of_lt {s : State} {b : Nat} {x : Button} (f : Button → Word) (hb : b < s.params.nbtn)
    (hx : s.buttons[b]? = some x) : s.buttonView b f = f x := by
  simp [State.buttonView, State.button?, hb, hx]

theorem State.buttonView_of_ge {s : State} {b : Nat} (f : Button → Word) (hb : s.params.nbtn ≤ b) :
    s.buttonView b f = 0#32 := by
  simp [State.buttonView, State.button?, Nat.not_lt.mpr hb]

theorem State.channelView_of_lt {s : State} {i : Nat} {c : Channel} (f : Channel → Word) (hi : i < s.params.nalm)
    (hc : s.channels[i]? = some c) : s.channelView i f = f c := by
  simp [State.channelView, State.channel?, hi, hc]

theorem State.channelView_of_ge {s : State} {i : Nat} (f : Channel → Word) (hi : s.params.nalm ≤ i) :
    s.channelView i f = 0#32 := by
  simp [State.channelView, State.channel?, Nat.not_lt.mpr hi]

theorem State.modifyButton_getElem? (s : State) (b j : Nat) (f : Button → Button) :
    (s.modifyButton b f).buttons[j]? = if b = j then s.buttons[j]?.map f else s.buttons[j]? := by
  simp only [State.modifyButton_buttons, List.getElem?_modify]
  split <;> cases s.buttons[j]? <;> simp

theorem State.modifyChannel_getElem? (s : State) (i j : Nat) (f : Channel → Channel) :
    (s.modifyChannel i f).channels[j]? = if i = j then s.channels[j]?.map f else s.channels[j]? := by
  simp only [State.modifyChannel_channels, List.getElem?_modify]
  split <;> cases s.channels[j]? <;> simp

theorem State.mapChannels_getElem? (s : State) (f : Nat → Channel → Channel) (j : Nat) :
    (s.mapChannels f).channels[j]? = s.channels[j]?.map (f j) := by
  simp

@[simp] theorem State.modifyButton_length (s : State) (b : Nat) (f : Button → Button) :
    (s.modifyButton b f).buttons.length = s.buttons.length := by simp

@[simp] theorem State.modifyChannel_length (s : State) (i : Nat) (f : Channel → Channel) :
    (s.modifyChannel i f).channels.length = s.channels.length := by simp

@[simp] theorem State.mapChannels_length (s : State) (f : Nat → Channel → Channel) :
    (s.mapChannels f).channels.length = s.channels.length := by simp

@[simp] theorem fireAll_length (s : State) : (fireAll s).channels.length = s.channels.length := by simp

/-! ## Reads -/

theorem answer_eq_next {v : Word} {s t : State} : answer v s = .next t ↔ t = s.respond v := by
  simp [answer, eq_comm]

@[simp] theorem State.respond_respond (s : State) (v w : Word) : (s.respond v).respond w = s.respond w := rfl

/-! ## Scans -/

@[simp] theorem scanButton_cfg (pin : Bool) (ph : Word) (b : Nat) (x : Button) : (scanButton pin ph b x).1.cfg = x.cfg := rfl

@[simp] theorem scanButton_en (pin : Bool) (ph : Word) (b : Nat) (x : Button) : (scanButton pin ph b x).1.en = x.en := rfl

@[simp] theorem scanButton_raw (pin : Bool) (ph : Word) (b : Nat) (x : Button) :
    (scanButton pin ph b x).1.raw = push x.raw x.cfg.hs.toNat (pin == x.cfg.ah) := rfl

@[simp] theorem scanButton_event_button (pin : Bool) (ph : Word) (b : Nat) (x : Button) :
    (scanButton pin ph b x).2.button = b := rfl

theorem enqueue_cases (d : Nat) (q : List Word) (w : Word) :
    (q.length < d ∧ enqueue d q w = q ++ [w]) ∨ (d ≤ q.length ∧ enqueue d q w = q) := by
  unfold enqueue; split
  · exact .inl ⟨‹_›, rfl⟩
  · exact .inr ⟨by omega, rfl⟩

theorem offer_cases (d : Nat) (q : List Word) (e : Event) :
    offer d q e = q ∨ (e.kind ≠ .none ∧ q.length < d ∧ offer d q e = q ++ [eventWord e]) := by
  unfold offer; split
  · exact .inl rfl
  · rcases enqueue_cases d q (eventWord e) with ⟨h, h'⟩ | ⟨-, h'⟩
    · exact .inr ⟨‹_›, h, h'⟩
    · exact .inl h'

theorem scanButtons_length (pins ph : Word) (d : Nat) (b : Nat) (xs : List Button) (q : List Word) :
    (scanButtons pins ph d b xs q).1.length = xs.length := by
  induction xs generalizing b q with
  | nil => rfl
  | cons x xs ih => unfold scanButtons; split <;> simp [ih]

/-- Button `k` of a scan depends on button `k` alone. -/
theorem scanButtons_getElem? (pins ph : Word) (d : Nat) (b : Nat) (xs : List Button) (q : List Word) (k : Nat) :
    (scanButtons pins ph d b xs q).1[k]?
      = xs[k]?.map fun x => if x.en then (scanButton (pins.getLsbD (b + k)) ph (b + k) x).1 else x := by
  induction xs generalizing b q k with
  | nil => simp [scanButtons]
  | cons x xs ih =>
    unfold scanButtons
    cases k with
    | zero => split <;> simp [*]
    | succ k => split <;> simp [ih, Nat.add_comm, Nat.add_left_comm]

/-- A scan only appends to the queue, and never past its depth. -/
theorem scanButtons_queue (pins ph : Word) (d : Nat) (b : Nat) (xs : List Button) (q : List Word) :
    ∃ ws, (scanButtons pins ph d b xs q).2 = q ++ ws ∧ (q.length ≤ d → (q ++ ws).length ≤ d) := by
  induction xs generalizing b q with
  | nil => exact ⟨[], by simp [scanButtons], by simp⟩
  | cons x xs ih =>
    unfold scanButtons; split
    · rcases offer_cases d q (scanButton (pins.getLsbD b) ph b x).2 with h | ⟨-, hl, h⟩
      · obtain ⟨ws, h1, h2⟩ := ih (b + 1) q
        exact ⟨ws, by simpa [h] using h1, h2⟩
      · obtain ⟨ws, h1, h2⟩ := ih (b + 1) (q ++ [eventWord (scanButton (pins.getLsbD b) ph b x).2])
        refine ⟨eventWord (scanButton (pins.getLsbD b) ph b x).2 :: ws, by simpa [h] using h1, fun _ => ?_⟩
        have := h2 (by simp; omega)
        simpa using this
    · exact ih (b + 1) q

/-- A skipped scan counts the skip down; any other classifies and counts itself. -/
theorem groupScan_cases (s : State) :
    (s.skipRem ≠ 0#16 ∧ groupScan s = { s with skipRem := s.skipRem - 1#16 })
      ∨ (s.skipRem = 0#16 ∧ groupScan s =
          { s with
            buttons := (scanButtons s.pinIn s.scanCnt s.params.evqDepth 0 s.buttons s.evq).1
            evq := (scanButtons s.pinIn s.scanCnt s.params.evqDepth 0 s.buttons s.evq).2
            scanCnt := s.scanCnt + 1#32 }) := by
  by_cases h : s.skipRem = 0#16 <;> simp [groupScan, h]

@[simp] theorem groupScan_length (s : State) : (groupScan s).buttons.length = s.buttons.length := by
  rcases groupScan_cases s with ⟨-, h⟩ | ⟨-, h⟩ <;> simp [h, scanButtons_length]

/-! ## Alarm commands, fire and rearm -/

theorem almCommand_cases (op act : BitVec 2) (id : BitVec 8) (e : State → State) (s : State) :
    (commandStatus s.params.nalm op act id = statusOk ∧ almCommand op act id e s = e (s.setAlmStatus statusOk))
      ∨ (commandStatus s.params.nalm op act id ≠ statusOk
          ∧ almCommand op act id e s = s.setAlmStatus (commandStatus s.params.nalm op act id)) := by
  by_cases h : commandStatus s.params.nalm op act id = statusOk <;> simp [almCommand, h]

theorem commandStatus_ok {n : Nat} {op act : BitVec 2} {id : BitVec 8} :
    commandStatus n op act id = statusOk
      ↔ id.toNat < n ∧ op ≠ 3#2 ∧ (op = 1#2 ∨ op = 2#2 → act = 1#2 ∨ act = 2#2) := by
  unfold commandStatus statusErrId statusErrArg statusOk
  split
  · simp; omega
  · have : id.toNat < n := by omega
    split
    · simp; tauto
    · simp; tauto

theorem fireChannel_cases (now : Wide) (c : Channel) :
    (c.due now = true ∧ fireChannel now c = { c with intr := true, armed := false })
      ∨ (c.due now = false ∧ fireChannel now c = c) := by
  cases h : c.due now <;> simp [fireChannel, h]

theorem Channel.due_eq_true {now : Wide} {c : Channel} : c.due now = true ↔ c.armed = true ∧ c.target ≤ now := by
  simp [Channel.due]

@[simp] theorem fireChannel_not_due (now : Wide) (c : Channel) : (fireChannel now c).due now = false := by
  rcases fireChannel_cases now c with ⟨-, h⟩ | ⟨h, h'⟩
  · simp [h, Channel.due]
  · simp [h', h]

@[simp] theorem fireChannel_fireChannel (now : Wide) (c : Channel) :
    fireChannel now (fireChannel now c) = fireChannel now c := by
  rcases fireChannel_cases now (fireChannel now c) with ⟨h, -⟩ | ⟨-, h⟩
  · simp at h
  · exact h

theorem rearmTarget_cases (floor ival : Word) (now target : Wide) :
    rearmTarget floor ival now target = now + floor.setWidth 64
      ∨ rearmTarget floor ival now target = target + ival.setWidth 64 := by
  unfold rearmTarget; split <;> simp

theorem rearmChannel_cases (floor : Word) (now : Wide) (c : Channel) :
    (c.repeating = true
        ∧ rearmChannel floor now c = { c with target := rearmTarget floor c.interval now c.target, armed := true })
      ∨ (c.repeating = false ∧ rearmChannel floor now c = { c with action := .none, armed := false, inte := false }) := by
  cases h : c.repeating <;> simp [rearmChannel, h]

theorem leaveHostService_cases (floor : Word) (now : Wide) (c : Channel) :
    (c.insvc = false ∧ leaveHostService floor now c = c)
      ∨ (c.insvc = true ∧ c.rearmOk = false ∧ leaveHostService floor now c = { c with insvc := false })
      ∨ (c.insvc = true ∧ c.rearmOk = true
          ∧ leaveHostService floor now c = rearmChannel floor now { c with insvc := false, rearmOk := false }) := by
  cases h : c.insvc <;> cases h' : c.rearmOk <;> simp [leaveHostService, h, h']

theorem endOfService_cases (id : BitVec 8) (s : State) :
    (s.params.nalm ≤ id.toNat ∧ endOfService id s = s.setAlmStatus statusErrId)
      ∨ (id.toNat < s.params.nalm ∧ endOfService id s =
          (s.setAlmStatus statusOk).modifyChannel id.toNat (leaveHostService s.params.floorUs s.counter)) := by
  by_cases h : s.params.nalm ≤ id.toNat
  · exact .inl ⟨h, by simp [endOfService, eoiStatus, h, statusErrId, statusOk]⟩
  · exact .inr ⟨by omega, by simp [endOfService, eoiStatus, h]⟩

/-! ## Service, acknowledge and settle -/

theorem service_cases (i : Nat) (s : State) :
    (s.channels[i]? = none ∧ service i s = s)
      ∨ (∃ c, s.channels[i]? = some c ∧ c.action = .none ∧ service i s = s.modifyChannel i ackChannel)
      ∨ (∃ c, s.channels[i]? = some c ∧ c.action = .host
          ∧ service i s = (s.modifyChannel i ackChannel).modifyChannel i enterHostService)
      ∨ (∃ c, s.channels[i]? = some c ∧ c.action = .scan
          ∧ service i s = rearm i (groupScan (s.modifyChannel i ackChannel))) := by
  unfold service
  split
  · exact .inl ⟨‹_›, rfl⟩
  · rename_i c hc
    right
    cases h : c.action
    · exact .inl ⟨c, hc, h, by simp⟩
    · exact .inr (.inl ⟨c, hc, h, by simp⟩)
    · exact .inr (.inr ⟨c, hc, h, by simp⟩)

theorem acknowledgeOne_cases (mask : BitVec 8) (s : State) (i : Nat) :
    acknowledgeOne mask s i = s
      ∨ (∃ c, s.channels[i]? = some c ∧ mask.getLsbD i = true ∧ c.intr = true ∧ acknowledgeOne mask s i = service i s) := by
  unfold acknowledgeOne
  split
  · rename_i c hc
    by_cases h : mask.getLsbD i = true ∧ c.intr = true
    · exact .inr ⟨c, hc, h.1, h.2, by simp [h.1, h.2]⟩
    · exact .inl (by simp_all)
  · exact .inl rfl

/-- What every acknowledged service keeps, the acknowledge keeps. -/
theorem acknowledge_induct {P : State → Prop} (mask : BitVec 8)
    (hstep : ∀ s i c, P s → s.channels[i]? = some c → c.intr = true → P (service i s)) {s : State} (h : P s) :
    P (acknowledge mask s) := by
  unfold acknowledge
  generalize List.range s.params.nalm = is
  induction is generalizing s with
  | nil => exact h
  | cons i is ih =>
    refine ih ?_
    rcases acknowledgeOne_cases mask s i with h' | ⟨c, hc, -, hi, h'⟩
    · rw [h']; exact h
    · rw [h']; exact hstep s i c h hc hi

theorem nextScanRequest_eq_some {s : State} {i : Nat} (h : nextScanRequest s = some i) :
    ∃ c, s.channels[i]? = some c ∧ c.scanRequest = true := by
  obtain ⟨hi, hp, -⟩ := List.findIdx?_eq_some_iff_getElem.mp h
  exact ⟨s.channels[i], by simp [hi], hp⟩

theorem nextScanRequest_eq_none {s : State} : nextScanRequest s = none ↔ ∀ c ∈ s.channels, c.scanRequest = false := by
  simp [nextScanRequest, List.findIdx?_eq_none_iff]

/-- What the comparators and a `SCAN` service keep, `Settle` keeps. -/
theorem settleLoop_induct {P : State → Prop} (hfire : ∀ s, P s → P (fireAll s))
    (hserv : ∀ s i c, P s → s.channels[i]? = some c → c.scanRequest = true → P (service i s)) :
    ∀ {n : Nat} {s t : State}, P s → settleLoop n s = some t → P t := by
  intro n
  induction n with
  | zero => intro s t _ h; simp [settleLoop] at h
  | succ n ih =>
    intro s t hs h
    simp only [settleLoop] at h
    split at h
    · cases h; exact hfire s hs
    · rename_i i hi
      obtain ⟨c, hc, hr⟩ := nextScanRequest_eq_some hi
      exact ih (hserv _ i c (hfire s hs) hc hr) h

/-- What `Settle` answers is a state after the comparators, in which no `SCAN` channel requests. -/
theorem settleLoop_exit : ∀ {n : Nat} {s t : State}, settleLoop n s = some t →
    ∃ u, t = fireAll u ∧ nextScanRequest t = none := by
  intro n
  induction n with
  | zero => intro s t h; simp [settleLoop] at h
  | succ n ih =>
    intro s t h
    simp only [settleLoop] at h
    split at h
    · cases h; exact ⟨s, rfl, ‹_›⟩
    · exact ih h

/-! ## Steps -/

theorem finish_eq_next {r : Result} {t : State} : finish r = .next t ↔ ∃ s, r = .next s ∧ settle s = some t := by
  cases r with
  | next s => cases h : settle s <;> simp [finish, h]
  | fault f => simp [finish]
  | refused r => simp [finish]

theorem tick_cases (s : State) :
    (Config.wrapLimit ≤ s.counter.toNat + 1 ∧ tick s = .refused .counterWrapRegion)
      ∨ (s.counter.toNat + 1 < Config.wrapLimit ∧ tick s = .next { s with counter := s.counter + 1#64 }) := by
  unfold tick; split
  · exact .inl ⟨‹_›, rfl⟩
  · exact .inr ⟨by omega, rfl⟩

theorem nextEnvStep_cons {s : State} {e : EnvStep} {rest : List EnvStep} (h : s.agenda = e :: rest) :
    nextEnvStep s = (e.action, ({ s with agenda := rest } : State).begin e.pins) := by
  simp [nextEnvStep, h]

theorem nextEnvStep_nil {s : State} (h : s.agenda = []) :
    nextEnvStep s = ((Config.environment s.draws).action,
      ({ s with draws := s.draws + 1 } : State).begin (Config.environment s.draws).pins) := by
  simp [nextEnvStep, h]

/-- The three kinds of step that can answer a next state. -/
theorem step_cases {s t : State} (h : step s = .next t) :
    ((nextEnvStep s).1 = .tick ∧ finish (tick (nextEnvStep s).2) = .next t)
      ∨ (∃ w i, (nextEnvStep s).1 = .access 4 w ∧ decode w = .ok i ∧ finish (exec i (nextEnvStep s).2) = .next t)
      ∨ ((nextEnvStep s).1 = .reset ∧ t = resetBlock (nextEnvStep s).2) := by
  unfold step runStep at h
  split at h
  · exact .inl ⟨‹_›, h⟩
  · rename_i size w hw
    unfold access fetchOperation at h
    by_cases hsize : size = 4
    · subst hsize
      cases hd : decode w with
      | error e => simp [hd] at h
      | ok i => exact .inr (.inl ⟨w, i, hw, hd, by simpa [hd] using h⟩)
    · simp [hsize] at h
  · exact .inr (.inr ⟨‹_›, by simpa [eq_comm] using h⟩)

end Sys2Proof.Machine
end

