-- ==== Sys2Proof/Laws/PerInstr.lean ====
section
/-! SUPPORT. The families of facts about every operation as syntax, one lemma per constructor. `EncodeMatchesRow`: the word of
an operation lies in its row of opcode_table.json (30_encoding.md R86). -/

namespace Sys2Proof.Laws

/-- The operation word of `i` satisfies `(T & mask) = match` for the row of `i`. -/
def EncodeMatchesRow.Statement (i : Instr) : Prop := encode i &&& (opcodeRow i).1 = (opcodeRow i).2

theorem EncodeMatchesRow.rdBtnRawLo (b : BitVec 5) : EncodeMatchesRow.Statement (.rdBtnRawLo b) := by
  revert b; unfold EncodeMatchesRow.Statement; decide

theorem EncodeMatchesRow.rdBtnRawHi (b : BitVec 5) : EncodeMatchesRow.Statement (.rdBtnRawHi b) := by
  revert b; unfold EncodeMatchesRow.Statement; decide

theorem EncodeMatchesRow.rdBtnFiltLo (b : BitVec 5) : EncodeMatchesRow.Statement (.rdBtnFiltLo b) := by
  revert b; unfold EncodeMatchesRow.Statement; decide

theorem EncodeMatchesRow.rdBtnFiltHi (b : BitVec 5) : EncodeMatchesRow.Statement (.rdBtnFiltHi b) := by
  revert b; unfold EncodeMatchesRow.Statement; decide

theorem EncodeMatchesRow.wrBtnStageA (data : Word) : EncodeMatchesRow.Statement (.wrBtnStageA data) := by
  simp only [EncodeMatchesRow.Statement, encode, opcodeRow, encodeWrite, packOp_and_addrMask]
  decide

theorem EncodeMatchesRow.wrBtnStageB (data : Word) : EncodeMatchesRow.Statement (.wrBtnStageB data) := by
  simp only [EncodeMatchesRow.Statement, encode, opcodeRow, encodeWrite, packOp_and_addrMask]
  decide

theorem EncodeMatchesRow.rdBtnStageA : EncodeMatchesRow.Statement .rdBtnStageA := by
  unfold EncodeMatchesRow.Statement; decide

theorem EncodeMatchesRow.rdBtnStageB : EncodeMatchesRow.Statement .rdBtnStageB := by
  unfold EncodeMatchesRow.Statement; decide

theorem EncodeMatchesRow.wrBtnCmd (index : BitVec 8) (en : Bool) : EncodeMatchesRow.Statement (.wrBtnCmd index en) := by
  simp only [EncodeMatchesRow.Statement, encode, opcodeRow, encodeWrite, packOp_and_addrMask]
  decide

theorem EncodeMatchesRow.rdBtnCfgA (b : BitVec 5) : EncodeMatchesRow.Statement (.rdBtnCfgA b) := by
  revert b; unfold EncodeMatchesRow.Statement; decide

theorem EncodeMatchesRow.rdBtnCfgB (b : BitVec 5) : EncodeMatchesRow.Statement (.rdBtnCfgB b) := by
  revert b; unfold EncodeMatchesRow.Statement; decide

theorem EncodeMatchesRow.rdBtnRep (b : BitVec 5) : EncodeMatchesRow.Statement (.rdBtnRep b) := by
  revert b; unfold EncodeMatchesRow.Statement; decide

theorem EncodeMatchesRow.rdBtnEn : EncodeMatchesRow.Statement .rdBtnEn := by
  unfold EncodeMatchesRow.Statement; decide

theorem EncodeMatchesRow.wrGrpCfg (n : BitVec 16) : EncodeMatchesRow.Statement (.wrGrpCfg n) := by
  simp only [EncodeMatchesRow.Statement, encode, opcodeRow, encodeWrite, packOp_and_addrMask]
  decide

theorem EncodeMatchesRow.rdGrpCfg : EncodeMatchesRow.Statement .rdGrpCfg := by
  unfold EncodeMatchesRow.Statement; decide

theorem EncodeMatchesRow.wrGrpScan : EncodeMatchesRow.Statement .wrGrpScan := by
  unfold EncodeMatchesRow.Statement; decide

theorem EncodeMatchesRow.rdGrpScancnt : EncodeMatchesRow.Statement .rdGrpScancnt := by
  unfold EncodeMatchesRow.Statement; decide

theorem EncodeMatchesRow.rdGrpSkiprem : EncodeMatchesRow.Statement .rdGrpSkiprem := by
  unfold EncodeMatchesRow.Statement; decide

theorem EncodeMatchesRow.poll : EncodeMatchesRow.Statement .poll := by
  unfold EncodeMatchesRow.Statement; decide

theorem EncodeMatchesRow.rdEvqStatus : EncodeMatchesRow.Statement .rdEvqStatus := by
  unfold EncodeMatchesRow.Statement; decide

theorem EncodeMatchesRow.rdId : EncodeMatchesRow.Statement .rdId := by
  unfold EncodeMatchesRow.Statement; decide

theorem EncodeMatchesRow.rdParams : EncodeMatchesRow.Statement .rdParams := by
  unfold EncodeMatchesRow.Statement; decide

theorem EncodeMatchesRow.rdFloor : EncodeMatchesRow.Statement .rdFloor := by
  unfold EncodeMatchesRow.Statement; decide

theorem EncodeMatchesRow.rdTimelr : EncodeMatchesRow.Statement .rdTimelr := by
  unfold EncodeMatchesRow.Statement; decide

theorem EncodeMatchesRow.rdTimehr : EncodeMatchesRow.Statement .rdTimehr := by
  unfold EncodeMatchesRow.Statement; decide

theorem EncodeMatchesRow.wrAlmInterval (data : Word) : EncodeMatchesRow.Statement (.wrAlmInterval data) := by
  simp only [EncodeMatchesRow.Statement, encode, opcodeRow, encodeWrite, packOp_and_addrMask]
  decide

theorem EncodeMatchesRow.wrAlmParam (data : Word) : EncodeMatchesRow.Statement (.wrAlmParam data) := by
  simp only [EncodeMatchesRow.Statement, encode, opcodeRow, encodeWrite, packOp_and_addrMask]
  decide

theorem EncodeMatchesRow.rdAlmInterval : EncodeMatchesRow.Statement .rdAlmInterval := by
  unfold EncodeMatchesRow.Statement; decide

theorem EncodeMatchesRow.rdAlmParam : EncodeMatchesRow.Statement .rdAlmParam := by
  unfold EncodeMatchesRow.Statement; decide

theorem EncodeMatchesRow.almClear (id : BitVec 8) : EncodeMatchesRow.Statement (.almClear id) := by
  simp only [EncodeMatchesRow.Statement, encode, opcodeRow, encodeWrite, packOp_and_cmdMask, almCmdData_and_three]
  decide

theorem EncodeMatchesRow.almSetOneshot (act : BitVec 2) (id : BitVec 8) : EncodeMatchesRow.Statement (.almSetOneshot act id) := by
  simp only [EncodeMatchesRow.Statement, encode, opcodeRow, encodeWrite, packOp_and_cmdMask, almCmdData_and_three]
  decide

theorem EncodeMatchesRow.almSetRepeating (act : BitVec 2) (id : BitVec 8) : EncodeMatchesRow.Statement (.almSetRepeating act id) := by
  simp only [EncodeMatchesRow.Statement, encode, opcodeRow, encodeWrite, packOp_and_cmdMask, almCmdData_and_three]
  decide

theorem EncodeMatchesRow.almCmdRsvd (id : BitVec 8) : EncodeMatchesRow.Statement (.almCmdRsvd id) := by
  simp only [EncodeMatchesRow.Statement, encode, opcodeRow, encodeWrite, packOp_and_cmdMask, almCmdData_and_three]
  decide

theorem EncodeMatchesRow.wrAlmEoi (id : BitVec 8) : EncodeMatchesRow.Statement (.wrAlmEoi id) := by
  simp only [EncodeMatchesRow.Statement, encode, opcodeRow, encodeWrite, packOp_and_addrMask]
  decide

theorem EncodeMatchesRow.rdAlmStatus : EncodeMatchesRow.Statement .rdAlmStatus := by
  unfold EncodeMatchesRow.Statement; decide

theorem EncodeMatchesRow.rdAlmTargetLo (i : BitVec 3) : EncodeMatchesRow.Statement (.rdAlmTargetLo i) := by
  revert i; unfold EncodeMatchesRow.Statement; decide

theorem EncodeMatchesRow.rdAlmTargetHi (i : BitVec 3) : EncodeMatchesRow.Statement (.rdAlmTargetHi i) := by
  revert i; unfold EncodeMatchesRow.Statement; decide

theorem EncodeMatchesRow.rdAlmIntervalI (i : BitVec 3) : EncodeMatchesRow.Statement (.rdAlmIntervalI i) := by
  revert i; unfold EncodeMatchesRow.Statement; decide

theorem EncodeMatchesRow.rdAlmParamI (i : BitVec 3) : EncodeMatchesRow.Statement (.rdAlmParamI i) := by
  revert i; unfold EncodeMatchesRow.Statement; decide

theorem EncodeMatchesRow.rdAlmCtrl (i : BitVec 3) : EncodeMatchesRow.Statement (.rdAlmCtrl i) := by
  revert i; unfold EncodeMatchesRow.Statement; decide

theorem EncodeMatchesRow.rdArmed : EncodeMatchesRow.Statement .rdArmed := by
  unfold EncodeMatchesRow.Statement; decide

theorem EncodeMatchesRow.rdIntr : EncodeMatchesRow.Statement .rdIntr := by
  unfold EncodeMatchesRow.Statement; decide

theorem EncodeMatchesRow.wrIntr (mask : BitVec 8) : EncodeMatchesRow.Statement (.wrIntr mask) := by
  simp only [EncodeMatchesRow.Statement, encode, opcodeRow, encodeWrite, packOp_and_addrMask]
  decide

theorem EncodeMatchesRow.rdInte : EncodeMatchesRow.Statement .rdInte := by
  unfold EncodeMatchesRow.Statement; decide

theorem EncodeMatchesRow.wrInte (mask : BitVec 8) : EncodeMatchesRow.Statement (.wrInte mask) := by
  simp only [EncodeMatchesRow.Statement, encode, opcodeRow, encodeWrite, packOp_and_addrMask]
  decide

theorem EncodeMatchesRow.wrInteSet (mask : BitVec 8) : EncodeMatchesRow.Statement (.wrInteSet mask) := by
  simp only [EncodeMatchesRow.Statement, encode, opcodeRow, encodeWrite, packOp_and_addrMask]
  decide

theorem EncodeMatchesRow.wrInteClr (mask : BitVec 8) : EncodeMatchesRow.Statement (.wrInteClr mask) := by
  simp only [EncodeMatchesRow.Statement, encode, opcodeRow, encodeWrite, packOp_and_addrMask]
  decide

theorem EncodeMatchesRow.rdInts : EncodeMatchesRow.Statement .rdInts := by
  unfold EncodeMatchesRow.Statement; decide

theorem EncodeMatchesRow.rdInsvc : EncodeMatchesRow.Statement .rdInsvc := by
  unfold EncodeMatchesRow.Statement; decide

theorem EncodeMatchesRow.rdUnmapped (addr : Addr) : EncodeMatchesRow.Statement (.rdUnmapped addr) := by
  apply BitVec.eq_of_getLsbD_eq
  intro i hi
  simp only [encode, opcodeRow, encodeRead]
  rw [BitVec.getLsbD_and, packOp_getLsbD]
  interval_cases i <;> simp [-BitVec.getLsbD_eq_getElem, BitVec.getLsbD_ofNat, Nat.testBit]

theorem EncodeMatchesRow.wrUnmapped (addr : Addr) : EncodeMatchesRow.Statement (.wrUnmapped addr) := by
  apply BitVec.eq_of_getLsbD_eq
  intro i hi
  simp only [encode, opcodeRow, encodeWrite]
  rw [BitVec.getLsbD_and, packOp_getLsbD]
  interval_cases i <;> simp [-BitVec.getLsbD_eq_getElem, BitVec.getLsbD_ofNat, Nat.testBit]

end Sys2Proof.Laws
end

