-- ==== Sys2Proof/Laws/Pseudo.lean ====
section
/-! SUPPORT. The host's clock read (44_timer_alarm_scheduler.md R198), piece by piece: what a pass gives, where the loop goes
after each read, and one round of the loop, said once. -/

namespace Sys2Proof.Machine

@[simp] theorem clockReadResult_same (hi lo : Word) : clockReadResult hi lo hi = some (hi ++ lo) := by
  simp [clockReadResult]

theorem clockReadResult_of_ne {hi1 hi2 : Word} (lo : Word) (h : hi1 ≠ hi2) : clockReadResult hi1 lo hi2 = none := by
  simp [clockReadResult, h]

@[simp] theorem resume_start (v : Word) : ClockReading.start.resume v = .high v := rfl
@[simp] theorem resume_high (hi1 v : Word) : (ClockReading.high hi1).resume v = .low hi1 v := rfl
@[simp] theorem resume_low_same (hi lo : Word) : (ClockReading.low hi lo).resume hi = .done (hi ++ lo) := by
  simp [ClockReading.resume]

theorem resume_low_of_ne {hi1 hi2 : Word} (lo : Word) (h : hi1 ≠ hi2) : (ClockReading.low hi1 lo).resume hi2 = .start := by
  simp [ClockReading.resume, clockReadResult_of_ne lo h]

/-- The reads of a pass are those the loop issues from its start, whatever they return (R198). -/
theorem operations_of_a_pass (v w : Word) :
    [ClockReading.start.operation, (ClockReading.start.resume v).operation, ((ClockReading.start.resume v).resume w).operation]
      = clockReadAttempt.map some := rfl

@[simp] theorem takeSteps_nil (s : State) : takeSteps [] s = .next s := rfl

theorem takeSteps_cons {e : EnvStep} {s t : State} (es : List EnvStep) (h : runStep e.action (s.begin e.pins) = .next t) :
    takeSteps (e :: es) s = takeSteps es t := by simp [takeSteps, h]

@[simp] theorem clockReadLoop_nil (c : ClockReading) (s : State) : clockReadLoop [] c s = .next (c, s) := rfl

/-- Once the loop has returned, it issues nothing more. -/
@[simp] theorem clockReadLoop_done (gaps : List (List EnvStep)) (v : Wide) (s : State) :
    clockReadLoop gaps (.done v) s = .next (.done v, s) := by cases gaps <;> rfl

/-- One round of the loop: the steps of the other agents, the host's read, and where its value leaves the host. -/
theorem clockReadLoop_cons {es : List EnvStep} {c : ClockReading} {i : Instr} {s a t : State} (rest : List (List EnvStep))
    (hi : c.operation = some i) (ha : takeSteps es s = .next a) (ht : hostIssues i a = .next t) :
    clockReadLoop (es :: rest) c s = clockReadLoop rest (c.resume (t.readData.getD 0#32)) t := by
  simp [clockReadLoop, hi, ha, ht]

end Sys2Proof.Machine
end

