-- ==== Sys2Proof/Laws/Window.lean ====
section
/-! SUPPORT. The bits of the values the window primitives and the bit mask registers are built from. -/

namespace Sys2Proof.Machine

@[simp] theorem ones_getLsbD (n i : Nat) : (ones n).getLsbD i = (decide (i < n) && decide (i < 64)) := by
  simp [ones, BitVec.getLsbD_ofNat, Nat.testBit_two_pow_sub_one, Bool.and_comm]

theorem ones_zero : ones 0 = 0#64 := rfl

@[simp] theorem bit64_getLsbD (b : Bool) (i : Nat) : (bit64 b).getLsbD i = (decide (i = 0) && b) := by
  cases b <;> cases i <;> simp [bit64]

@[simp] theorem bit32_getLsbD (b : Bool) (i : Nat) : (bit32 b).getLsbD i = (decide (i = 0) && b) := by
  cases b <;> cases i <;> simp [bit32]

@[simp] theorem ones_getElem (n i : Nat) (h : i < 64) : (ones n)[i] = decide (i < n) := by
  rw [← BitVec.getLsbD_eq_getElem]; simp [-BitVec.getLsbD_eq_getElem, h]

@[simp] theorem bit64_getElem (b : Bool) (i : Nat) (h : i < 64) : (bit64 b)[i] = (decide (i = 0) && b) := by
  rw [← BitVec.getLsbD_eq_getElem]; simp [-BitVec.getLsbD_eq_getElem]

@[simp] theorem bit32_getElem (b : Bool) (i : Nat) (h : i < 32) : (bit32 b)[i] = (decide (i = 0) && b) := by
  rw [← BitVec.getLsbD_eq_getElem]; simp [-BitVec.getLsbD_eq_getElem]

/-- A window lies inside its width when no bit at or above the width is 1. -/
theorem lt_two_pow_iff {w : Wide} {hs : Nat} : w.toNat < 2 ^ hs ↔ ∀ i, hs ≤ i → w.getLsbD i = false := by
  constructor
  · intro h i hi
    exact Nat.testBit_lt_two_pow (Nat.lt_of_lt_of_le h (Nat.pow_le_pow_right (by decide) hi))
  · intro h
    exact Nat.lt_pow_two_of_testBit _ fun i hi => h i hi

/-- The low `n` bits are all 1. -/
theorem and_ones_eq_ones {w : Wide} {n : Nat} (hn : n ≤ 64) : w &&& ones n = ones n ↔ ∀ i, i < n → w.getLsbD i = true := by
  constructor
  · intro h i hi
    have := congrArg (fun v => v.getLsbD i) h
    simpa [-BitVec.getLsbD_eq_getElem, hi, (by omega : i < 64)] using this
  · intro h
    apply BitVec.eq_of_getLsbD_eq
    intro i hi
    by_cases hin : i < n <;> simp [-BitVec.getLsbD_eq_getElem, hin, hi, h]

/-- The low `n` bits are all 0. -/
theorem and_ones_eq_zero {w : Wide} {n : Nat} (hn : n ≤ 64) : w &&& ones n = 0#64 ↔ ∀ i, i < n → w.getLsbD i = false := by
  constructor
  · intro h i hi
    have := congrArg (fun v => v.getLsbD i) h
    simpa [-BitVec.getLsbD_eq_getElem, hi, (by omega : i < 64)] using this
  · intro h
    apply BitVec.eq_of_getLsbD_eq
    intro i hi
    by_cases hin : i < n <;> simp [-BitVec.getLsbD_eq_getElem, hin, hi, h]

theorem runFrom_le (b : Bool) (w : Wide) (n i : Nat) : runFrom b w n i ≤ n := by
  induction n generalizing i with
  | zero => simp [runFrom]
  | succ n ih => unfold runFrom; split <;> simp [ih]

/-- Every bit of the run equals `b`. -/
theorem runFrom_bits (b : Bool) (w : Wide) (n i k : Nat) (hk : k < runFrom b w n i) : w.getLsbD (i + k) = b := by
  induction n generalizing i k with
  | zero => simp [runFrom] at hk
  | succ n ih =>
    unfold runFrom at hk
    split at hk
    · cases k with
      | zero => simpa
      | succ k => simpa [Nat.add_assoc, Nat.add_comm 1 k] using ih (i + 1) k (by omega)
    · omega

/-- A run that ends early ends at a bit that differs. -/
theorem runFrom_stop (b : Bool) (w : Wide) (n i : Nat) (h : runFrom b w n i < n) :
    w.getLsbD (i + runFrom b w n i) ≠ b := by
  induction n generalizing i with
  | zero => simp at h
  | succ n ih =>
    unfold runFrom at h ⊢
    split
    · rename_i hb
      simp only [hb, if_true] at h
      have := ih (i + 1) (by omega)
      simpa [Nat.add_assoc, Nat.add_comm 1] using this
    · simpa

/-- Bit `i` of a bit mask register is the bit of channel or button `i` (30_encoding.md R95, R107). -/
theorem bitmask_getLsbD (bs : List Bool) (i : Nat) : (bitmask bs).getLsbD i = (decide (i < 32) && bs[i]?.getD false) := by
  induction bs generalizing i with
  | nil => simp [bitmask]
  | cons b bs ih =>
    cases i with
    | zero => simp [bitmask]
    | succ i =>
      simp only [bitmask, BitVec.getLsbD_or, BitVec.getLsbD_shiftLeft, ih, bit32_getLsbD]
      by_cases h : i + 1 < 32
      · simp [h, (by omega : i < 32)]
      · simp [h]

end Sys2Proof.Machine
end

