-- ==== Sys2Proof/Tests/Slice0.lean ====
section
/-! SUPPORT. Tests on fixed values, each about one step or one function. Expected results are the worked examples of the rules
and the vectors of 95_test_vectors.md, named in each comment. The theorems `witness_…` show that the hypotheses of the
statements in Certificates/Slice0/Obligations.lean are met together, at the bounds where clauses meet. -/

namespace Sys2Proof.Tests

open Sys2Proof Sys2Proof.Machine

/-! ## WellFormed: each check refuses an ill-formed term -/

theorem test_wf_read_misaligned : (Instr.rdUnmapped 0x0C1#12).wellFormed = false := by decide
theorem test_wf_read_named_fixed : (Instr.rdUnmapped 0x010#12).wellFormed = false := by decide
theorem test_wf_read_named_channel : (Instr.rdUnmapped 0x1F0#12).wellFormed = false := by decide
theorem test_wf_read_named_button : (Instr.rdUnmapped 0x7F8#12).wellFormed = false := by decide
theorem test_wf_write_misaligned : (Instr.wrUnmapped 0x002#12).wellFormed = false := by decide
theorem test_wf_write_named : (Instr.wrUnmapped 0x0A8#12).wellFormed = false := by decide
theorem test_wf_read_write_only : (Instr.rdUnmapped 0x048#12).wellFormed = true := by decide
theorem test_wf_write_read_only : (Instr.wrUnmapped 0x010#12).wellFormed = true := by decide

/-! ## Decoding: a word for every operation, written out as `rw`, `addr`, `data` from the map (30_encoding.md R85, R90) -/

theorem test_decode_windows :
    decode 0x040800000000#45 = .ok (.rdBtnRawLo 0) ∧ decode 0x042C00000000#45 = .ok (.rdBtnRawHi 1)
      ∧ decode 0x045000000000#45 = .ok (.rdBtnFiltLo 2) ∧ decode 0x07F400000000#45 = .ok (.rdBtnFiltHi 31) := by decide

theorem test_decode_classifier :
    decode 0x10A005012802#45 = .ok (.wrBtnStageA 0x05012802) ∧ decode 0x10A4270F0000#45 = .ok (.wrBtnStageB 0x270F0000)
      ∧ decode 0x00A000000000#45 = .ok .rdBtnStageA ∧ decode 0x00A400000000#45 = .ok .rdBtnStageB
      ∧ decode 0x10A8FFFFFE01#45 = .ok (.wrBtnCmd 1 false) ∧ decode 0x10A800000100#45 = .ok (.wrBtnCmd 0 true)
      ∧ decode 0x040000000000#45 = .ok (.rdBtnCfgA 0) ∧ decode 0x042400000000#45 = .ok (.rdBtnCfgB 1)
      ∧ decode 0x041800000000#45 = .ok (.rdBtnRep 0) ∧ decode 0x00AC00000000#45 = .ok .rdBtnEn := by decide

theorem test_decode_group :
    decode 0x1080FFFF0005#45 = .ok (.wrGrpCfg 5) ∧ decode 0x008000000000#45 = .ok .rdGrpCfg
      ∧ decode 0x108400000007#45 = .ok .wrGrpScan ∧ decode 0x008800000000#45 = .ok .rdGrpScancnt
      ∧ decode 0x008C00000000#45 = .ok .rdGrpSkiprem ∧ decode 0x009000000000#45 = .ok .poll
      ∧ decode 0x009400000000#45 = .ok .rdEvqStatus := by decide

theorem test_decode_scheduler :
    decode 0x000000000000#45 = .ok .rdId ∧ decode 0x000400000000#45 = .ok .rdParams
      ∧ decode 0x000800000000#45 = .ok .rdFloor ∧ decode 0x001000000000#45 = .ok .rdTimelr
      ∧ decode 0x001400000000#45 = .ok .rdTimehr ∧ decode 0x104000000064#45 = .ok (.wrAlmInterval 100)
      ∧ decode 0x10440000CAFE#45 = .ok (.wrAlmParam 0xCAFE) ∧ decode 0x004000000000#45 = .ok .rdAlmInterval
      ∧ decode 0x004400000000#45 = .ok .rdAlmParam := by decide

theorem test_decode_alarm_commands :
    decode 0x1048000001F4#45 = .ok (.almClear 1) ∧ decode 0x104800000105#45 = .ok (.almSetOneshot 1 1)
      ∧ decode 0x10480000000A#45 = .ok (.almSetRepeating 2 0) ∧ decode 0x10480000FF03#45 = .ok (.almCmdRsvd 255)
      ∧ decode 0x105000000001#45 = .ok (.wrAlmEoi 1) := by decide

theorem test_decode_channels :
    decode 0x004C00000000#45 = .ok .rdAlmStatus ∧ decode 0x010000000000#45 = .ok (.rdAlmTargetLo 0)
      ∧ decode 0x012400000000#45 = .ok (.rdAlmTargetHi 1) ∧ decode 0x014800000000#45 = .ok (.rdAlmIntervalI 2)
      ∧ decode 0x016C00000000#45 = .ok (.rdAlmParamI 3) ∧ decode 0x01F000000000#45 = .ok (.rdAlmCtrl 7)
      ∧ decode 0x003400000000#45 = .ok .rdArmed := by decide

theorem test_decode_arbiter :
    decode 0x002000000000#45 = .ok .rdIntr ∧ decode 0x102000000002#45 = .ok (.wrIntr 2)
      ∧ decode 0x002400000000#45 = .ok .rdInte ∧ decode 0x10240000000F#45 = .ok (.wrInte 15)
      ∧ decode 0x102800000004#45 = .ok (.wrInteSet 4) ∧ decode 0x102C00000001#45 = .ok (.wrInteClr 1)
      ∧ decode 0x003000000000#45 = .ok .rdInts ∧ decode 0x003800000000#45 = .ok .rdInsvc := by decide

theorem test_decode_unmapped :
    decode 0x08000000FFFF#45 = .ok (.rdUnmapped 0x800) ∧ decode 0x101000000001#45 = .ok (.wrUnmapped 0x010)
      ∧ decode 0x041C00000000#45 = .ok (.rdUnmapped 0x41C) ∧ decode 0x011400000000#45 = .ok (.rdUnmapped 0x114)
      ∧ decode 0x000200000000#45 = .error .misaligned := by decide

theorem test_decode_bytes :
    decodeBytes [0x05#8, 0x01#8, 0x00#8, 0x00#8, 0x48#8, 0x10#8] = .ok (.almSetOneshot 1 1)
      ∧ decodeBytes [0#8, 0#8, 0#8, 0#8, 0#8, 0x20#8] = .error .notAnOperationWord
      ∧ decodeBytes [0#8] = .error .wrongLength := by decide

theorem test_decode_table_word : decodeTableWord 45 0x10A800000100 = some (.wrBtnCmd 0 true) := by decide

/-! ## Helpers -/

/-- The state after one bus transaction of the operation `i`, at the pin levels the state holds. -/
def after (i : Instr) (s : State) : Option State :=
  match step { s with agenda := [{ action := .access 4 (encode i), pins := s.pinIn }] } with
  | .next t => some t
  | _ => none

/-- What one bus transaction returns to the host. -/
def readOf (i : Instr) (s : State) : Option Word := (after i s).bind State.readData

/-- One field of the state after one bus transaction. -/
def seen {α : Type} (i : Instr) (s : State) (f : State → α) : Option α := (after i s).map f

/-- The state after one step of the environment. -/
def envStep (e : EnvStep) (s : State) : Option State :=
  match step { s with agenda := [e] } with
  | .next t => some t
  | _ => none

/-- The reset state with channel `i` replaced. -/
def withChannel (i : Nat) (c : Channel) : State := State.reset.modifyChannel i fun _ => c

/-- The reset state with button `b` replaced. -/
def withButton (b : Nat) (x : Button) : State := State.reset.modifyButton b fun _ => x

/-- A repeating `HOST` channel of interval 100, armed for 100 and enabled (95_test_vectors.md E7). -/
def host100 : Channel :=
  { target := 100, interval := 100, param := 0xCAFE, repeating := true, action := .host, armed := true, insvc := false,
    rearmOk := false, intr := false, inte := true }

/-- The same channel in service, fired at 100. -/
def inService : Channel := { host100 with armed := false, insvc := true, rearmOk := true }

/-- The same channel pending. -/
def pending : Channel := { host100 with armed := false, intr := true }

/-- A repeating `SCAN` channel of interval 100, armed for 100. -/
def scan100 : Channel := { host100 with action := .scan }

/-- The Single preset (42_button_event_classifier.md R169), enabled, right after construction. -/
def singleButton : Button := { cfg := clamp 0x00010A00 0, en := true, raw := 0, filt := 0, rep := 0 }

/-- The Multi preset, enabled, right after construction. -/
def multiButton : Button := { cfg := clamp 0x05012802 0x270F0000, en := true, raw := 0, filt := 0, rep := 0 }

/-! ## History windows (40_debounce_shift_register.md, examples of R121 to R128 and of R130 to R133) -/

theorem test_push : push 7 10 false = 0xE ∧ push 0x3FF 10 false = 0x3FE ∧ push 0x3FF 10 true = 0x3FF := by decide
theorem test_trailing : trailingOnes 7 10 = 3 ∧ trailingOnes 6 10 = 0 ∧ trailingZeros 8 10 = 3 ∧ trailingZeros 0 10 = 10 := by
  decide
theorem test_rising_edges :
    risingEdgeCount 0xE0 40 false = 1 ∧ risingEdgeCount 0x1C7 40 false = 2 ∧ risingEdgeCount 0x1C7 40 true = 1
      ∧ risingEdgeCount 0x5555555555555555 64 false = 32 ∧ risingEdgeCount 0x200 10 false = 0 := by decide
theorem test_low_runs : lowAllOnes 7 10 3 = true ∧ lowAllOnes 7 10 4 = false ∧ lowAllZeros 8 10 3 = true := by decide
theorem test_gate : gate 0xE0 40 5 = true ∧ gate 0x70 40 5 = false := by decide

theorem test_rdBtnRawLo : readOf (.rdBtnRawLo 0) (withButton 0 { singleButton with raw := 7 }) = some 7 := by decide
theorem test_rdBtnRawHi : readOf (.rdBtnRawHi 1) (withButton 1 { multiButton with raw := 0xFFFFFFFFFF }) = some 0xFF := by
  decide
theorem test_rdBtnFiltLo : readOf (.rdBtnFiltLo 0) (withButton 0 { singleButton with filt := 0x3FF }) = some 0x3FF := by decide
theorem test_rdBtnFiltHi :
    readOf (.rdBtnFiltHi 0) (withButton 0 { singleButton with filt := 0xFFFFFFFF00000001 }) = some 0xFFFFFFFF := by decide
theorem test_rdBtnRawLo_beyond : readOf (.rdBtnRawLo 2) (withButton 1 { singleButton with raw := 7 }) = some 0 := by decide

/-! ## Configuration and construction (42_button_event_classifier.md; 95_test_vectors.md E1) -/

theorem test_clamp_words :
    cfgWordA (clamp 0xFF00FF03 0xFFFF0000) = 0x40014003 ∧ cfgWordB (clamp 0xFF00FF03 0xFFFF0000) = 0x3F3F0000
      ∧ cfgWordA (clamp 0xC8FF0501 0x1E0A0000) = 0x00FF0A01 ∧ cfgWordB (clamp 0xC8FF0501 0x1E0A0000) = 0x09090000
      ∧ cfgWordB (clamp 0 0xFFFFFFFF) = 0x0909FFFF ∧ cfgWordA (clamp 0xC8002802 0) = 0x28012802 := by decide

theorem test_wrBtnStageA : seen (.wrBtnStageA 0x05012802) State.reset State.btnStageA = some 0x05012802 := by decide
theorem test_wrBtnStageB : seen (.wrBtnStageB 0x270F0000) State.reset State.btnStageB = some 0x270F0000 := by decide
theorem test_rdBtnStageA : readOf .rdBtnStageA { State.reset with btnStageA := 0xFFFFFFFC } = some 0xFFFFFFFC := by decide
theorem test_rdBtnStageB : readOf .rdBtnStageB { State.reset with btnStageB := 0x270F0000 } = some 0x270F0000 := by decide
theorem test_wrBtnCmd :
    seen (.wrBtnCmd 0 true) { withButton 0 { singleButton with raw := 7, rep := 3 } with
        btnStageA := 0x05012802, btnStageB := 0x270F0000 } State.buttons = some [multiButton, Button.reset] := by decide
theorem test_wrBtnCmd_beyond : seen (.wrBtnCmd 2 true) State.reset State.buttons = some State.reset.buttons := by decide
theorem test_rdBtnCfgA : readOf (.rdBtnCfgA 0) State.reset = some 0x00010A00 := by decide
theorem test_rdBtnCfgB :
    readOf (.rdBtnCfgB 1) (withButton 1 { singleButton with cfg := clamp 0x00010A00 0xFFFF0000 }) = some 0x09090000 := by decide
theorem test_rdBtnRep : readOf (.rdBtnRep 0) (withButton 0 { singleButton with rep := 4 }) = some 4 := by decide
theorem test_rdBtnEn : readOf .rdBtnEn (withButton 1 singleButton) = some 2 := by decide

/-! ## The scan (95_test_vectors.md E3 to E6) -/

/-- E4, k = 0: a press is a Single at once, and fills the filtered window. -/
theorem test_scan_single :
    (scanButton false 0 0 singleButton).2 = { kind := .single, button := 0, clicks := 1, repeats := 0 }
      ∧ (scanButton false 0 0 singleButton).1.filt = 0x3FF := by decide

/-- E3, k = 14: the 15th pressed scan of the Multi preset is a Long. -/
theorem test_scan_long :
    (scanButton false 14 0 { multiButton with raw := 0x3FFF, filt := 0x3FFF }).2
      = { kind := .long, button := 0, clicks := 0, repeats := 0 } := by decide

/-- E5, k = 14: the quiet gate opens on two clicks. -/
theorem test_scan_multi :
    eventWord (scanButton true 14 0 { multiButton with raw := 0x3870, filt := 0x3870 }).2 = 0x00020003
      ∧ (scanButton true 14 0 { multiButton with raw := 0x3870, filt := 0x3870 }).1.filt = 0xFFFFFFFFFF := by decide

/-- E6, k = 9, 20 and 21: the first repeat, the first release, which is not evaluated, and the evaluated release. -/
theorem test_scan_repeat :
    eventWord (scanButton false 9 0 { singleButton with cfg := clamp 0x00010A00 0x0000020A, raw := 0x1FF, filt := 0x3FF }).2
        = 0x01000002
      ∧ (scanButton true 20 0 { singleButton with cfg := clamp 0x00010A00 0x0000020A, raw := 0x3FF, filt := 0x3FF, rep := 4 }).1.rep
        = 4
      ∧ (scanButton true 21 0 { singleButton with cfg := clamp 0x00010A00 0x0000020A, raw := 0x3FE, filt := 0x3FE, rep := 4 }).1.rep
        = 0 := by decide

/-! ## The group (43_button_group_queue.md, the examples of R182 to R188) -/

theorem test_wrGrpScan : seen .wrGrpScan (withButton 0 singleButton) State.evq = some [0x00010001] := by decide
theorem test_wrGrpScan_skipped :
    seen .wrGrpScan { withButton 0 singleButton with scanSkip := 2, skipRem := 2 }
      (fun t => (t.skipRem, t.scanCnt, t.evq)) = some (1, 0, []) := by decide
theorem test_wrGrpScan_full :
    seen .wrGrpScan { withButton 0 singleButton with evq := [1, 2, 3, 4] } (fun t => (t.evq, t.scanCnt))
      = some ([1, 2, 3, 4], 1) := by decide
theorem test_poll : readOf .poll { State.reset with evq := [0x00020003, 1] } = some 0x00020003
    ∧ seen .poll { State.reset with evq := [0x00020003, 1] } State.evq = some [1] := by decide
theorem test_poll_empty : readOf .poll State.reset = some 0 := by decide
theorem test_wrGrpCfg :
    seen (.wrGrpCfg 3) { State.reset with scanCnt := 9 } (fun t => (t.scanSkip, t.skipRem, t.scanCnt)) = some (3, 3, 0) := by
  decide
theorem test_rdGrpCfg : readOf .rdGrpCfg { State.reset with scanSkip := 5, skipRem := 4 } = some 5 := by decide
theorem test_rdGrpScancnt : readOf .rdGrpScancnt { State.reset with scanCnt := 2 } = some 2 := by decide
theorem test_rdGrpSkiprem : readOf .rdGrpSkiprem { State.reset with scanSkip := 2, skipRem := 1 } = some 1 := by decide
theorem test_rdEvqStatus : readOf .rdEvqStatus { State.reset with evq := [1, 2, 3, 4] } = some 4 := by decide

/-! ## Identification, clock and alarm registers (44_timer_alarm_scheduler.md, the examples of R196 to R229) -/

theorem test_rdId : readOf .rdId State.reset = some 0x44425331 := by decide
theorem test_rdParams : readOf .rdParams State.reset = some 0x00040402 := by decide
theorem test_rdFloor : readOf .rdFloor State.reset = some 0x0000000A := by decide
theorem test_rdTimelr : readOf .rdTimelr { State.reset with counter := 0x0000000100000003 } = some 3 := by decide
theorem test_rdTimehr : readOf .rdTimehr { State.reset with counter := 0x0000000100000003 } = some 1 := by decide
theorem test_wrAlmInterval : seen (.wrAlmInterval 100) State.reset State.almIntervalStg = some 100 := by decide
theorem test_wrAlmParam : seen (.wrAlmParam 0xCAFE) State.reset State.almParamStg = some 0xCAFE := by decide
theorem test_rdAlmInterval : readOf .rdAlmInterval { State.reset with almIntervalStg := 3 } = some 3 := by decide
theorem test_rdAlmParam : readOf .rdAlmParam { State.reset with almParamStg := 0xCAFE } = some 0xCAFE := by decide
theorem test_almClear :
    seen (.almClear 1) { withChannel 1 pending with almStatus := 2 } (fun t => (t.almStatus, t.channels[1]?))
      = some (0, some { pending with action := .none, intr := false, inte := false }) := by decide
theorem test_almClear_bad_id :
    seen (.almClear 4) (withChannel 1 pending) (fun t => (t.almStatus, t.channels[1]?)) = some (1, some pending) := by decide
theorem test_almSetOneshot :
    seen (.almSetOneshot 1 1) { State.reset with almIntervalStg := 3 }
      (fun t => (t.almStatus, t.channels[1]?.map fun c => (c.target, c.interval, ctrlWord c)))
      = some (0, some (10, 10, 0x0A)) := by decide
theorem test_almSetOneshot_bad_action : seen (.almSetOneshot 3 1) State.reset State.almStatus = some 2 := by decide
theorem test_almSetRepeating :
    seen (.almSetRepeating 2 0) { State.reset with almIntervalStg := 100 }
      (fun t => (channelMask Channel.inte t, t.channels[0]?.map fun c => (c.target, ctrlWord c)))
      = some (1, some (100, 0x0D)) := by decide
theorem test_almSetRepeating_bad_id : seen (.almSetRepeating 0 8) State.reset State.almStatus = some 1 := by decide
theorem test_almCmdRsvd : seen (.almCmdRsvd 0) State.reset State.almStatus = some 2
    ∧ seen (.almCmdRsvd 255) State.reset State.almStatus = some 1 := by decide
theorem test_wrAlmEoi :
    seen (.wrAlmEoi 1) { withChannel 1 inService with counter := 130 }
      (fun t => (channelMask Channel.insvc t, t.channels[1]?.map fun c => (c.target, ctrlWord c)))
      = some (0, some (200, 0x0B)) := by decide
/-- R220: an overrun by more than the floor skips the missed periods. -/
theorem test_wrAlmEoi_overrun :
    seen (.wrAlmEoi 1) { withChannel 1 inService with counter := 350 } (fun t => t.channels[1]?.map Channel.target)
      = some (some 360) := by decide
theorem test_rdAlmStatus : readOf .rdAlmStatus { State.reset with almStatus := 2 } = some 2 := by decide
theorem test_rdAlmTargetLo : readOf (.rdAlmTargetLo 0) (withChannel 0 host100) = some 100 := by decide
theorem test_rdAlmTargetHi :
    readOf (.rdAlmTargetHi 3) (withChannel 3 { host100 with target := 0x500000064 }) = some 5 := by decide
theorem test_rdAlmIntervalI : readOf (.rdAlmIntervalI 1) (withChannel 1 host100) = some 100 := by decide
theorem test_rdAlmParamI : readOf (.rdAlmParamI 2) (withChannel 2 host100) = some 0x0000CAFE := by decide
theorem test_rdAlmParamI_beyond : readOf (.rdAlmParamI 4) (withChannel 3 host100) = some 0 := by decide
theorem test_rdAlmCtrl : readOf (.rdAlmCtrl 1) (withChannel 1 inService) = some 0x33 := by decide
theorem test_rdArmed : readOf .rdArmed (withChannel 1 host100) = some 2 := by decide

/-! ## The interrupt masks (45_interrupt_arbiter.md, the examples of R231 to R238) -/

theorem test_rdIntr : readOf .rdIntr (withChannel 1 { pending with inte := false }) = some 2 := by decide
theorem test_rdInts : readOf .rdInts (withChannel 1 { pending with inte := false }) = some 0
    ∧ readOf .rdInts (withChannel 1 pending) = some 2 := by decide
theorem test_wrIntr :
    seen (.wrIntr 2) (withChannel 1 pending) (fun t => (t.irq 1, t.channels[1]?.map ctrlWord, channelMask Channel.intr t))
      = some (false, some 0x33, 0) := by decide
theorem test_wrIntr_not_pending : seen (.wrIntr 0xFF) (withChannel 1 host100) (fun t => t.channels[1]?) = some (some host100) := by
  decide
theorem test_rdInte : readOf .rdInte (withChannel 2 host100) = some 4 := by decide
theorem test_wrInte : seen (.wrInte 0xFF) State.reset (channelMask Channel.inte) = some 0xF := by decide
theorem test_wrInteSet : seen (.wrInteSet 4) (withChannel 0 host100) (channelMask Channel.inte) = some 5 := by decide
theorem test_wrInteClr : seen (.wrInteClr 1) (withChannel 0 host100) (channelMask Channel.inte) = some 0 := by decide
/-- R292: enabling a pending `SCAN` channel runs its scan and its rearm in the same step. -/
theorem test_wrInteSet_scan :
    seen (.wrInteSet 1) { withChannel 0 { scan100 with armed := false, intr := true, inte := false } with counter := 105 }
      (fun t => (t.scanCnt, t.channels[0]?.map Channel.target)) = some (1, some 200) := by decide
theorem test_rdInsvc : readOf .rdInsvc (withChannel 1 inService) = some 2 := by decide

/-! ## Unmapped accesses (20_memory.md R69) -/

theorem test_rdUnmapped : readOf (.rdUnmapped 0x0C0) State.reset = some 0 := by decide
theorem test_wrUnmapped : seen (.wrUnmapped 0x010) { State.reset with counter := 7 } State.counter = some 7 := by decide

/-! ## Steps of the environment -/

/-- R218: the tick that reaches the target fires, and the line rises. -/
theorem test_tick_fires :
    (envStep ⟨.tick, 0⟩ { withChannel 1 host100 with counter := 99 }).map (fun t => (t.counter, t.irq 1, channelMask Channel.intr t))
      = some (100, true, 2) := by decide

/-- R18, R219: a `SCAN` alarm runs the scan at its target, and its next target is one interval on. -/
theorem test_tick_scans :
    (envStep ⟨.tick, 0⟩ { withChannel 0 scan100 with counter := 99, buttons := [singleButton, Button.reset] }).map
        (fun t => (t.evq, t.channels[0]?.map Channel.target, channelMask Channel.intr t))
      = some ([0x00010001], some 200, 0) := by decide

/-- R195, R202: the tick that would reach the wrap limit is refused, the one before it is not. -/
theorem test_tick_refused :
    (match tick { State.reset with counter := 0xFFFFFFFBFFFFFFFF } with | .refused r => some r | _ => none)
        = some .counterWrapRegion
      ∧ (match tick { State.reset with counter := 0xFFFFFFFBFFFFFFFE } with | .next t => some t.counter | _ => none)
        = some 0xFFFFFFFBFFFFFFFF := by decide

/-- R62: a misaligned access and a sub-word access are refused. -/
theorem test_access_refused :
    (match access 4 0x001200000000 State.reset with | .refused r => some r | _ => none) = some .subWordOrMisaligned
      ∧ (match access 2 0x001000000000 State.reset with | .refused r => some r | _ => none) = some .subWordOrMisaligned := by
  decide

/-- R280: a reset clears the block and keeps the instance. -/
theorem test_reset :
    (envStep ⟨.reset, 1⟩ { withChannel 1 inService with counter := 5, evq := [1] }).map
      (fun t => decide (t = { State.reset with pinIn := 1 })) = some true := by decide

/-- The host's entry point: the operation placed is the next step's. -/
theorem test_with_fetch_word :
    (match step (State.reset.withFetchWord 45 0x000000000000) with | .next t => t.readData | _ => none) = some 0x44425331 := by
  decide

/-- Where the loop of `CLOCK.READ` stands after the reads that follow the given steps. -/
def clockReads (gaps : List (List EnvStep)) (s : State) : Option ClockReading :=
  match clockReadLoop gaps .start s with
  | .next (c, _) => some c
  | _ => none

/-- R198, R199: a tick that rolls the low half over between the reads of the high half makes the loop start again. -/
theorem test_clock_read_retries :
    clockReads [[], [⟨.tick, 0⟩], []] { State.reset with counter := 0x0FFFFFFFF } = some .start
      ∧ clockReads [[], [⟨.tick, 0⟩], [], [], [⟨.tick, 0⟩], []] { State.reset with counter := 0x0FFFFFFFF }
          = some (.done 0x100000001) := by decide

/-- R262: the handler of line 1 around `SCAN`, without and with the optional read. -/
theorem test_isr :
    isr false 1 scanOnce = [.wrIntr 2, .rdAlmParamI 1, .wrGrpScan, .wrAlmEoi 1]
      ∧ isr true 1 scanOnce = .rdInts :: isr false 1 scanOnce := by decide

/-! ## Witnesses: the hypotheses of the statements are met -/

/-- The reset state with one step scheduled. -/
def scheduled (a : EnvAction) (s : State) : State := { s with agenda := [{ action := a, pins := 0 }] }

theorem witness_WindowBits : (64 ≤ 64 ∧ 63 < 64) ∧ (64 ≤ 64 ∧ 64 ≤ 64) := by decide
theorem witness_TrailingRunsAreTheLargest :
    (64 ≤ 64 ∧ 64 ≤ 64 ∧ (0xFFFFFFFFFFFFFFFF#64 : Wide) &&& ones 64 = ones 64 ∧ (0xFFFFFFFFFFFFFFFF#64 : Wide).getLsbD 0 = true)
      ∧ (10 ≤ 64 ∧ 10 ≤ 10 ∧ (0#64 : Wide) &&& ones 10 = 0#64) := by decide
theorem witness_RisingEdgesAreCountedPairs : (10 ≤ 10 ∧ 10 ≤ 64) ∧ (10 ≤ 64 ∧ 64 ≤ 64) := by decide
theorem witness_LowRunTests : (10 ≤ 64 ∧ (0x3FF#64 : Wide).toNat < 2 ^ 10 ∧ 10 < 11) ∧ (64 ≤ 64 ∧ (5#64 : Wide).toNat < 2 ^ 64) := by
  decide
theorem witness_FilterBitFlipsOnUnanimity :
    (1 ≤ 10 ∧ 10 ≤ 64 ∧ (0x3FF#64 : Wide).toNat < 2 ^ 10)
      ∧ (10 ≤ 10 ∧ ∀ i, i < 10 → (0x3FF#64 : Wide).getLsbD i = true)
      ∧ (∀ i, i < 11 → (0x000#64 : Wide).getLsbD i = false)
      ∧ (¬(10 ≤ 10 ∧ ∀ i, i < 10 → (0x1FF#64 : Wide).getLsbD i = true) ∧ ¬∀ i, i < 10 → (0x1FF#64 : Wide).getLsbD i = false)
      ∧ 10 < 11 := by decide
theorem witness_FilterUpdateShiftsInTheFilterBit : 1 ≤ 1 ∧ 1 ≤ 64 ∧ 64 ≤ 64 := by decide
theorem witness_GateOpensOnQuietRelease : (64 ≤ 64 ∧ 64 ≤ 64) ∧ (clamp 0xFF00FF01 0).mc = false := by decide
theorem witness_ConstructionOfAButton :
    State.reset.params.nbtn ≤ (2#8 : BitVec 8).toNat ∧ (1#8 : BitVec 8).toNat < State.reset.params.nbtn := by decide
theorem witness_ReadsOfAButton :
    State.reset.params.nbtn ≤ (2#5 : BitVec 5).toNat
      ∧ (1#5 : BitVec 5).toNat < State.reset.params.nbtn ∧ State.reset.buttons[1]? = some Button.reset := by decide
theorem witness_ReadsOfAWindow :
    State.reset.params.nbtn ≤ (31#5 : BitVec 5).toNat
      ∧ (0#5 : BitVec 5).toNat < State.reset.params.nbtn ∧ State.reset.buttons[0]? = some Button.reset := by decide

/-- The SingleRepeat preset with a window that the next pressed scan fills to the repeat threshold. -/
def repeatButton : Button := { singleButton with cfg := clamp 0x00010A00 0x0000020A, raw := 0x1FF }

theorem witness_RepeatDetection :
    (repeatButton.cfg.l = 0#6 ∧ repeatButton.cfg.ll = 0#6 ∧ (9#32 : Word).toNat % (repeatButton.cfg.rs.toNat + 1) = 0)
      ∧ (0 < repeatButton.cfg.r.toNat
          ∧ repeatButton.cfg.r.toNat ≤ trailingOnes (push repeatButton.raw repeatButton.cfg.hs.toNat (false == repeatButton.cfg.ah))
              repeatButton.cfg.hs.toNat)
      ∧ ¬(0 < repeatButton.cfg.r.toNat
          ∧ repeatButton.cfg.r.toNat ≤ trailingOnes (push repeatButton.raw repeatButton.cfg.hs.toNat (true == repeatButton.cfg.ah))
              repeatButton.cfg.hs.toNat)
      ∧ ¬(10#32 : Word).toNat % (repeatButton.cfg.rs.toNat + 1) = 0
      ∧ ¬multiButton.cfg.l = 0#6 := by decide
theorem witness_ScanKeepsTheButtonInRange :
    singleButton.inv ∧ singleButton.cfg.mc = false ∧ 0 < (scanButton false 0 0 singleButton).2.clicks := by decide

/-- The Multi preset with a window that the next pressed scan fills to the Long threshold. -/
def longButton : Button := { multiButton with raw := 0x3FFF }

theorem witness_LongIsReportedWithoutClicks :
    longButton.inv ∧ longButton.cfg.r = 0#8 ∧ 0 < longButton.cfg.l.toNat
      ∧ trailingOnes (push longButton.raw longButton.cfg.hs.toNat (false == longButton.cfg.ah)) longButton.cfg.hs.toNat
          = longButton.cfg.l.toNat := by decide
/-- The Multi preset after a release, with the older presses of 95_test_vectors.md P3 still in the window. -/
def releasedButton : Button := { multiButton with raw := 0x70E0FFFE }

theorem witness_AHoldReportsEachThresholdOnce :
    releasedButton.inv ∧ releasedButton.raw.getLsbD 0 = false ∧ releasedButton.cfg.r = 0#8
      ∧ (scanEvents 0 (([0, 1] : List Word).map fun p => (releasedButton.cfg.ah, p)) releasedButton)[1]?.isSome = true := by
  decide

/-- The Single preset after a release, with older presses in both windows. -/
def releasedSingle : Button := { singleButton with raw := 0x3E, filt := 0x3FE }

theorem witness_OnePressIsOneSingle :
    releasedSingle.inv ∧ releasedSingle.raw.getLsbD 0 = false ∧ releasedSingle.filt.getLsbD 0 = false
      ∧ releasedSingle.cfg.fs.toNat = 1 ∧ releasedSingle.cfg.mc = false ∧ releasedSingle.cfg.r.toNat ≠ 1
      ∧ releasedSingle.cfg.l.toNat ≠ 1 := by decide
theorem witness_EventWordFields :
    (⟨.multi, 31, 32, 255⟩ : Event).button < 32 ∧ (⟨.multi, 31, 32, 255⟩ : Event).clicks ≤ 32 := by decide
theorem witness_ScanCommandClassifies :
    State.reset.skipRem = 0#16 ∧ ({ State.reset with evq := [1, 2, 3, 4] } : State).evq.length ≤ State.reset.params.evqDepth := by
  decide
theorem witness_ScanCommandSkips : ({ State.reset with skipRem := 1 } : State).skipRem ≠ 0#16 := by decide
theorem witness_PollTakesTheOldestEvent :
    ({ State.reset with evq := [1, 2] } : State).evq = 1 :: [2] ∧ State.reset.evq = [] := by decide
theorem witness_IdentificationAndClock : State.reset.params.wf := by decide
theorem witness_ClockReadReturnsTheCounter :
    ((0x0FFFFFFFF#64 : Wide) ≤ 0x100000000 ∧ (0x100000000#64 : Wide) ≤ 0x100000003
        ∧ hiHalf 0x0FFFFFFFF ≠ hiHalf 0x100000003)
      ∧ (0x100000000#64 : Wide) ≤ 0x100000001 ∧ (0x100000001#64 : Wide) ≤ 0x1FFFFFFFF
        ∧ hiHalf 0x100000000 = hiHalf 0x1FFFFFFFF := by decide
theorem witness_ReadsOfAChannel :
    State.reset.params.nalm ≤ (4#3 : BitVec 3).toNat
      ∧ (3#3 : BitVec 3).toNat < State.reset.params.nalm ∧ State.reset.channels[3]? = some Channel.reset := by decide
theorem witness_BitMaskRegisters :
    (Instr.rdArmed, State.reset.channels.map Channel.armed) ∈ [(Instr.rdArmed, State.reset.channels.map Channel.armed)]
      ∧ 31 < 32 := by decide
theorem witness_ClearFreesTheChannel :
    (3#8 : BitVec 8).toNat < State.reset.params.nalm ∧ State.reset.params.nalm ≤ (4#8 : BitVec 8).toNat := by decide
/-- The reset state at the last counter value below the wrap region. -/
def lastInstant : State := { State.reset with counter := 0xFFFFFFFBFFFFFFFF }

theorem witness_RegistrationArmsTheChannel :
    max lastInstant.almIntervalStg.toNat lastInstant.params.floorUs.toNat = 10
      ∧ (0xFFFFFFFBFFFFFFFF + 10 = if (lastInstant.counter.toNat + 10) % 2 ^ 64 ≤ lastInstant.counter.toNat
          then lastInstant.counter.toNat + lastInstant.params.floorUs.toNat else lastInstant.counter.toNat + 10)
      ∧ lastInstant.counter.toNat < Config.wrapLimit ∧ 1 ≤ lastInstant.params.floorUs.toNat
      ∧ (3#8 : BitVec 8).toNat < lastInstant.params.nalm
      ∧ ((1#2 : BitVec 2) = 1#2 ∨ (1#2 : BitVec 2) = 2#2) ∧ ((2#2 : BitVec 2) = 1#2 ∨ (2#2 : BitVec 2) = 2#2) := by decide
theorem witness_ValidationOfAlarmCommands :
    State.reset.params.nalm ≤ (4#8 : BitVec 8).toNat ∧ (3#8 : BitVec 8).toNat < State.reset.params.nalm
      ∧ ((0#2 : BitVec 2) = 0#2 ∨ (0#2 : BitVec 2) = 3#2) ∧ ((3#2 : BitVec 2) = 0#2 ∨ (3#2 : BitVec 2) = 3#2)
      ∧ ((1#2 : BitVec 2) = 1#2 ∨ (1#2 : BitVec 2) = 2#2) ∧ ((2#2 : BitVec 2) = 1#2 ∨ (2#2 : BitVec 2) = 2#2) := by decide
theorem witness_RearmIsPhaseLocked :
    (withChannel 1 { pending with repeating := false }).channels[1]? = some { pending with repeating := false }
      ∧ ({ withChannel 1 pending with counter := 199 } : State).channels[1]? = some pending
      ∧ pending.repeating = true ∧ 200 = (pending.target.toNat + pending.interval.toNat) % 2 ^ 64
      ∧ (199#64 : Wide).toNat < Config.wrapLimit ∧ pending.target ≤ 199#64
      ∧ (199#64 : Wide).toNat - pending.target.toNat < pending.interval.toNat
      ∧ ({ withChannel 1 pending with counter := 210 } : State).channels[1]? = some pending ∧ 200 ≤ (210#64 : Wide).toNat
      ∧ (210#64 : Wide).toNat - 200 ≤ ({ withChannel 1 pending with counter := 210 } : State).params.floorUs.toNat := by
  decide
theorem witness_EndOfService :
    State.reset.params.nalm ≤ (4#8 : BitVec 8).toNat
      ∧ (∀ c ∈ [host100, { inService with rearmOk := false }, { inService with repeating := false }, inService],
          (3#8 : BitVec 8).toNat < (withChannel 3 c).params.nalm ∧ (withChannel 3 c).channels[3]? = some c)
      ∧ host100.insvc = false ∧ (inService.insvc = true ∧ inService.rearmOk = true ∧ inService.repeating = true) := by decide

/-- Channels 0 and 2 are pending, disabled `SCAN` channels, channel 1 a pending `HOST` channel. -/
def twoPendingScans : State :=
  ((withChannel 1 pending).modifyChannel 0 fun _ => { scan100 with armed := false, intr := true, inte := false }).modifyChannel 2
    fun _ => { scan100 with armed := false, intr := true, inte := false }

theorem witness_AcknowledgeServicesPendingChannels :
    twoPendingScans.channels.length = twoPendingScans.params.nalm ∧ acknowledgedScans 7 twoPendingScans = 2 := by decide
theorem witness_SettleLeavesNothingDue : (settle { withChannel 0 scan100 with counter := 100 }).isSome = true := by decide
theorem witness_SettleTerminates :
    1 ≤ State.reset.params.floorUs.toNat ∧ (withChannel 0 scan100).counter.toNat < Config.wrapLimit
      ∧ (withChannel 0 scan100).channels.length = (withChannel 0 scan100).params.nalm
      ∧ ∀ c ∈ (withChannel 0 scan100).channels, c.action ≠ .none →
          (withChannel 0 scan100).params.floorUs.toNat ≤ c.interval.toNat := by decide
theorem witness_StepRunsTheDecodedOperation :
    ∃ u t, (scheduled (.access 4 0x001000000000) State.reset).agenda = { action := .access 4 0x001000000000, pins := 0 } :: []
      ∧ decode 0x001000000000 = .ok .rdTimelr ∧ exec .rdTimelr { State.reset with agenda := [], pinIn := 0, readData := none } = .next u
      ∧ settle u = some t :=
  ⟨_, _, rfl, by decide, rfl, rfl⟩
theorem witness_TickAdvancesTheCounter :
    (scheduled .tick { State.reset with counter := 0xFFFFFFFBFFFFFFFE }).inv
      ∧ (scheduled .tick { State.reset with counter := 0xFFFFFFFBFFFFFFFE }).counter.toNat + 1 < Config.wrapLimit := by decide
theorem witness_RefusedSteps :
    (nextEnvStep (scheduled (.access 4 0x001200000000) State.reset)).1 = .access 4 0x001200000000
      ∧ (nextEnvStep State.reset).1 = (Config.environment 0).action := ⟨rfl, rfl⟩
theorem witness_ResetValues : (scheduled .reset (withChannel 1 inService)).agenda = { action := .reset, pins := 0 } :: [] := rfl
theorem witness_ResetSatisfiesTheInvariant : (⟨32, 8, 255, 0xFFFFFFFF⟩ : Params).wf ∧ (⟨1, 1, 1, 1⟩ : Params).wf := by decide
theorem witness_EveryStepKeepsTheInvariant :
    ∃ t, (scheduled .tick { withChannel 1 host100 with counter := 99 }).inv
      ∧ step (scheduled .tick { withChannel 1 host100 with counter := 99 }) = .next t :=
  ⟨_, by decide, rfl⟩
theorem witness_NoStepFaults : (withChannel 1 inService).inv := by decide
theorem witness_QuietReadsChangeNothing :
    (scheduled (.access 4 (encode (.rdAlmCtrl 1))) (withChannel 1 host100)).settled
      ∧ Instr.wellFormed (.rdAlmCtrl 1) = true ∧ Instr.quietRead (.rdAlmCtrl 1) = true
      ∧ (scheduled (.access 4 (encode (.rdAlmCtrl 1))) (withChannel 1 host100)).agenda
          = { action := .access 4 (encode (.rdAlmCtrl 1)), pins := 0 } :: [] := by decide
theorem witness_UnmappedAccesses :
    (0x0C0#12 : Addr).toNat % 4 = 0 ∧ namedRead 0x0C0#12 = false ∧ namedWrite 0x0C0#12 = false
      ∧ (0x190#12 : Addr).toNat % 4 = 0 ∧ 0x100 + 0x20 * State.reset.params.nalm ≤ (0x190#12 : Addr).toNat
      ∧ (0x190#12 : Addr).toNat < 0x200
      ∧ (0x440#12 : Addr).toNat % 4 = 0 ∧ 0x400 + 0x20 * State.reset.params.nbtn ≤ (0x440#12 : Addr).toNat
      ∧ (0x440#12 : Addr).toNat < 0x800 := by decide
/-- What is scheduled is what the environment asks of the next step, in each of the witnesses below. -/
theorem nextEnvStep_scheduled (a : EnvAction) (s : State) : (nextEnvStep (scheduled a s)).1 = a := rfl

theorem witness_OnlyTicksMoveTheCounter :
    (∃ t, step (scheduled .tick State.reset) = .next t) ∧ (∃ t, step (scheduled .reset State.reset) = .next t)
      ∧ ∃ t, step (scheduled (.access 4 (encode .wrGrpScan)) State.reset) = .next t :=
  ⟨⟨_, rfl⟩, ⟨_, rfl⟩, ⟨_, rfl⟩⟩
/-- A construction of button 1 leaves button 0 to the rule. -/
theorem witness_ConfigurationIsSetByConstructionOnly :
    (∃ t, step (scheduled (.access 4 0x10A800000101) State.reset) = .next t)
      ∧ (∀ w, EnvAction.access 4 0x10A800000101 = .access 4 w →
          ¬(opRw w = true ∧ opAddr w = 0x0A8#12 ∧ (opData w).toNat % 256 = 0))
      ∧ EnvAction.access 4 0x10A800000101 ≠ .reset ∧ State.reset.buttons[0]? = some Button.reset :=
  ⟨⟨_, rfl⟩, fun w h => by cases h; decide, by decide, by decide⟩
theorem witness_EventsLeaveOnlyByPollOrReset :
    (∃ t, step (scheduled (.access 4 (encode .wrGrpScan)) { withButton 0 singleButton with evq := [1] }) = .next t)
      ∧ (∀ w, EnvAction.access 4 (encode .wrGrpScan) = .access 4 w → ¬(opRw w = false ∧ opAddr w = 0x090#12))
      ∧ (∃ t, step (scheduled (.access 4 (encode .poll)) { State.reset with evq := [1, 2] }) = .next t)
      ∧ EnvAction.access 4 (encode .poll) ≠ .reset :=
  ⟨⟨_, rfl⟩, fun w h => by cases h; decide, ⟨_, rfl⟩, by decide⟩
theorem witness_StatusIsSetByCommandsOnly :
    (∃ t, step (scheduled (.access 4 (encode .rdAlmStatus)) { State.reset with almStatus := 2 }) = .next t)
      ∧ (∀ w, EnvAction.access 4 (encode .rdAlmStatus) = .access 4 w →
          ¬(opRw w = true ∧ (opAddr w = 0x048#12 ∨ opAddr w = 0x050#12)))
      ∧ EnvAction.access 4 (encode .rdAlmStatus) ≠ .reset :=
  ⟨⟨_, rfl⟩, fun w h => by cases h; decide, by decide⟩
/-- A registration of channel 1 leaves channel 0 to the rule. -/
theorem witness_RegistrationOwnsTheAlarmRecord :
    (∃ t, step (scheduled (.access 4 0x104800000105) (withChannel 0 host100)) = .next t)
      ∧ (∀ w, EnvAction.access 4 0x104800000105 = .access 4 w →
          ¬(opRw w = true ∧ opAddr w = 0x048#12 ∧ (opData w).toNat / 256 % 256 = 0))
      ∧ EnvAction.access 4 0x104800000105 ≠ .reset ∧ (withChannel 0 host100).channels[0]? = some host100 :=
  ⟨⟨_, rfl⟩, fun w h => by cases h; decide, by decide, by decide⟩
/-- The end of service of channel 1 at 205, five ticks after its next target: it is rearmed and fires in the same step. -/
def lateEndOfService : State :=
  scheduled (.access 4 (encode (.wrAlmEoi 1))) { withChannel 1 inService with counter := 205 }

/-- By an armed channel, and by an end of service. -/
theorem witness_StatusBitsAreSetByFiresOnly :
    (∃ t d, step (scheduled .tick { withChannel 1 host100 with counter := 99 }) = .next t ∧ t.channels[1]? = some d
        ∧ (withChannel 1 host100).channels[1]? = some host100 ∧ host100.intr = false ∧ d.intr = true)
      ∧ ∃ t d, step lateEndOfService = .next t ∧ t.channels[1]? = some d
        ∧ lateEndOfService.channels[1]? = some inService ∧ inService.intr = false ∧ inService.armed = false ∧ d.intr = true :=
  ⟨⟨_, _, rfl, rfl, rfl, rfl, rfl⟩, ⟨_, _, rfl, rfl, rfl, rfl, rfl, rfl⟩⟩

/-- The tick that reaches the target of the `HOST` channel 1. -/
def hostTick : State := scheduled .tick { withChannel 1 host100 with counter := 99 }

/-- The tick that reaches the target of the `SCAN` channel 0. -/
def scanTick (c : Channel) : State := scheduled .tick { withChannel 0 c with counter := 99 }

theorem witness_HostAlarmFiresAtItsTarget :
    hostTick.inv ∧ hostTick.agenda = { action := .tick, pins := 0 } :: [] ∧ hostTick.counter.toNat + 1 < Config.wrapLimit
      ∧ hostTick.channels[1]? = some host100 ∧ host100.armed = true ∧ host100.action = .host := by decide
theorem witness_ScanAlarmScansAtItsTarget : ∀ repeating : Bool, ∀ c, c = { scan100 with repeating := repeating } →
    (scanTick c).inv
      ∧ (scanTick c).agenda = { action := .tick, pins := 0 } :: [] ∧ (scanTick c).counter.toNat + 1 < Config.wrapLimit
      ∧ (scanTick c).channels[0]? = some c ∧ (c.armed = true ∧ c.action = .scan ∧ c.inte = true)
      ∧ c.target = (scanTick c).counter + 1#64
      ∧ ((scanTick c).channels.drop 1).all (fun d => !d.due ((scanTick c).counter + 1#64)) = true := by
  rintro (_ | _) _ rfl <;> decide
theorem witness_ClearedAlarmIsSilent :
    (scheduled (.access 4 (encode (.almClear 3))) (withChannel 3 inService)).inv
      ∧ (3#8 : BitVec 8).toNat < (withChannel 3 inService).params.nalm
      ∧ (withChannel 3 inService).channels[3]? = some inService := by decide
theorem witness_DecodeOfEncode :
    (Instr.rdUnmapped 0xFFC#12).wellFormed = true ∧ (Instr.wrUnmapped 0x000#12).wellFormed = true
      ∧ (Instr.rdBtnRep 31#5).wellFormed = true := by decide
theorem witness_DecodeFollowsTheOpcodeTable : decode 0x07F800000000 = .ok (.rdBtnRep 31) := by decide

/-- The state in which a roll-over of the low half comes with the next tick. -/
def rollover : State := { State.reset with counter := 0x0FFFFFFFF }

/-- One tick, no pin high. -/
def oneTick : List EnvStep := [{ action := .tick, pins := 0 }]

theorem witness_ClockReadLoopsUntilTheHalvesAgree :
    ∃ t1 a2 t2 t3, (∀ e ∈ oneTick ++ [], e.action ≠ .reset) ∧ takeSteps [] rollover = .next rollover
      ∧ hostIssues .rdTimehr rollover = .next t1 ∧ takeSteps oneTick t1 = .next a2 ∧ hostIssues .rdTimelr a2 = .next t2
      ∧ takeSteps [] t2 = .next t2 ∧ hostIssues .rdTimehr t2 = .next t3
      ∧ hiHalf rollover.counter ≠ hiHalf t2.counter ∧ hiHalf t1.counter = hiHalf rollover.counter :=
  ⟨_, _, _, _, by decide, rfl, rfl, rfl, rfl, rfl, rfl, by decide, by decide⟩

end Sys2Proof.Tests
end

section
/-! A bus transaction of four bytes, from the schedule to `Settle` (00_scope.md R11, 30_encoding.md R85). -/

namespace Sys2Proof.Machine

theorem fetchOperation_four_of_decode {w : OpWord} {i : Instr} (h : decode w = .ok i) : fetchOperation 4 w = .ok i := by
  simp [fetchOperation, h]

theorem access_four_of_decode {w : OpWord} {i : Instr} (h : decode w = .ok i) (s : State) :
    access 4 w s = finish (exec i s) := by
  simp [access, fetchOperation_four_of_decode h]

/-- A scheduled step is taken from the agenda, at its own pin levels. -/
theorem step_of_agenda_cons {s : State} {e : EnvStep} {rest : List EnvStep} (h : s.agenda = e :: rest) :
    step s = runStep e.action (({ s with agenda := rest } : State).begin e.pins) := by
  rw [step, nextEnvStep_cons h]

theorem step_of_scheduled_access {s : State} {w : OpWord} {pins : Word} {rest : List EnvStep} {i : Instr}
    (hagenda : s.agenda = { action := .access 4 w, pins := pins } :: rest) (hdecode : decode w = .ok i) :
    step s = finish (exec i (({ s with agenda := rest } : State).begin pins)) :=
  (step_of_agenda_cons hagenda).trans (access_four_of_decode hdecode _)

/-- Settles O38: the step is the access of the scheduled word, and where the operation and `Settle` both answer, so does
`finish`. -/
theorem stepRunsTheDecodedOperation : Obligations.StepRunsTheDecodedOperation := by
  intro s w pins rest i hagenda hdecode
  have hstep := step_of_scheduled_access hagenda hdecode
  refine ⟨hstep, fun u t hexec hsettle => ?_⟩
  exact hstep.trans (finish_eq_next.mpr ⟨u, hexec, hsettle⟩)

end Sys2Proof.Machine
end

section
/-! Reads. Every read but `POLL` answers a value and changes nothing else (20_memory.md R67). -/

namespace Sys2Proof.Machine

/-- A read with no side effect answers some value of the state. -/
theorem exec_of_quietRead {i : Instr} (hi : Instr.quietRead i = true) (s : State) : ∃ v, exec i s = answer v s := by
  cases i with
  | wrBtnStageA | wrBtnStageB | wrBtnCmd | wrGrpCfg | wrGrpScan | poll | wrAlmInterval | wrAlmParam | almClear
  | almSetOneshot | almSetRepeating | almCmdRsvd | wrAlmEoi | wrIntr | wrInte | wrInteSet | wrInteClr | wrUnmapped =>
    simp [Instr.quietRead, encode, encodeWrite] at hi
  | _ => exact ⟨_, rfl⟩

end Sys2Proof.Machine
end

section
/-! R53 items 1, 2 and 6 for one button: a construction puts its configuration in range, a scan keeps both windows inside
their width, and the event it returns is packed into a word that may be queued. -/

namespace Sys2Proof.Machine

theorem and_ones_lt (w : Wide) (hs : Nat) : (w &&& ones hs).toNat < 2 ^ hs :=
  lt_two_pow_iff.mpr fun i hi => by simp [-BitVec.getLsbD_eq_getElem, Nat.not_lt.mpr hi]

theorem push_lt (w : Wide) (hs : Nat) (b : Bool) : (push w hs b).toNat < 2 ^ hs := and_ones_lt _ hs

theorem fill_lt (hs : Nat) : (fill hs).toNat < 2 ^ hs :=
  lt_two_pow_iff.mpr fun i hi => by simp [-BitVec.getLsbD_eq_getElem, fill, Nat.not_lt.mpr hi]

/-- The filtered window after a scan is full, or the result of a push (R137, R166). -/
theorem scanButton_filt_cases (pin : Bool) (phase : Word) (b : Nat) (x : Button) :
    (scanButton pin phase b x).1.filt = fill x.cfg.hs.toNat
      ∨ ∃ w v, (scanButton pin phase b x).1.filt = push w x.cfg.hs.toNat v := by
  have hfilt : ∃ edges w v, (scanButton pin phase b x).1.filt
      = if 0 < edges then fill x.cfg.hs.toNat else push w x.cfg.hs.toNat v := ⟨_, _, _, rfl⟩
  obtain ⟨edges, w, v, h⟩ := hfilt
  rw [h]
  split
  · exact .inl rfl
  · exact .inr ⟨w, v, rfl⟩

theorem scanButton_inv {x : Button} (hx : x.inv) (pin : Bool) (phase : Word) (b : Nat) : (scanButton pin phase b x).1.inv := by
  obtain ⟨hcfg, -, -⟩ := hx
  refine ⟨hcfg, push_lt _ _ _, ?_⟩
  rw [scanButton_cfg]
  rcases scanButton_filt_cases pin phase b x with h | ⟨w, v, h⟩ <;> rw [h]
  · exact fill_lt _
  · exact push_lt _ _ _

theorem clampHs_bounds (a : Word) : 10 ≤ clampHs a ∧ clampHs a ≤ 64 := by
  unfold clampHs; omega

theorem clampFs_bounds (a : Word) : 1 ≤ clampFs a ∧ clampFs a ≤ 255 := by
  unfold clampFs; omega

theorem clampAf_le (a : Word) : clampAf a ≤ clampHs a := by
  unfold clampAf; split <;> omega

theorem clampLong_le (a : Word) (v : BitVec 8) : clampLong a v ≤ clampHs a - 1 := Nat.min_le_right _ _

/-- The clamped values fit their fields, so the held configuration is in range (R158). -/
theorem clamp_inRange (a b : Word) : (clamp a b).inRange := by
  have hHs := clampHs_bounds a
  have hFs := clampFs_bounds a
  have hAf := clampAf_le a
  have hL := clampLong_le a (b.extractLsb' 16 8)
  have hLl := clampLong_le a (b.extractLsb' 24 8)
  have hs_toNat : (clamp a b).hs.toNat = clampHs a := Nat.mod_eq_of_lt (by omega)
  have fs_toNat : (clamp a b).fs.toNat = clampFs a := Nat.mod_eq_of_lt (by omega)
  have af_toNat : (clamp a b).af.toNat = clampAf a := Nat.mod_eq_of_lt (by omega)
  have l_toNat : (clamp a b).l.toNat = clampLong a (b.extractLsb' 16 8) := Nat.mod_eq_of_lt (by omega)
  have ll_toNat : (clamp a b).ll.toNat = clampLong a (b.extractLsb' 24 8) := Nat.mod_eq_of_lt (by omega)
  have hmc : (clamp a b).mc = false → clampAf a = 0 := fun h => if_neg (by simpa [clamp] using h)
  rw [ButtonCfg.inRange, hs_toNat, fs_toNat, af_toNat, l_toNat, ll_toNat]
  exact ⟨hHs, hFs.1, hAf, hmc, hL, hLl⟩

theorem constructButton_inv (a b : Word) (en : Bool) (x : Button) : (constructButton a b en x).inv :=
  ⟨clamp_inRange a b, Nat.two_pow_pos _, Nat.two_pow_pos _⟩

theorem Button.reset_inv : Button.reset.inv := by decide

/-- The type field of an event word is the code of the event's type: every other field lies above it (30_encoding.md R104). -/
theorem eventTypeField_eventWord (e : Event) : eventTypeField (eventWord e) = (eventCode e.kind).setWidth 4 := by
  apply BitVec.eq_of_getLsbD_eq
  intro i hi
  simp [-BitVec.getLsbD_eq_getElem, eventTypeField, eventWord, hi, (by omega : i < 8), (by omega : i < 16),
    (by omega : i < 24)]

theorem queuedWord_eventWord {e : Event} (he : e.kind ≠ .none) : queuedWord (eventWord e) = true := by
  rw [queuedWord, eventTypeField_eventWord]
  cases hk : e.kind with
  | none => exact absurd hk he
  | _ => decide

/-- A scan queues event words only. -/
theorem scanButtons_queuedWord (pins phase : Word) (d b : Nat) (xs : List Button) (q : List Word)
    (hq : ∀ w ∈ q, queuedWord w = true) : ∀ w ∈ (scanButtons pins phase d b xs q).2, queuedWord w = true := by
  induction xs generalizing b q with
  | nil => exact hq
  | cons x xs ih =>
    unfold scanButtons
    split
    · refine ih (b + 1) _ ?_
      rcases offer_cases d q (scanButton (pins.getLsbD b) phase b x).2 with h | ⟨hkind, -, h⟩ <;> rw [h]
      · exact hq
      · simpa [or_imp, forall_and] using ⟨hq, queuedWord_eventWord hkind⟩
    · exact ih (b + 1) q hq

theorem scanButtons_inv (pins phase : Word) (d b : Nat) {xs : List Button} (q : List Word) (hxs : ∀ x ∈ xs, x.inv) :
    ∀ y ∈ (scanButtons pins phase d b xs q).1, y.inv := by
  intro y hy
  obtain ⟨k, hk⟩ := List.mem_iff_getElem?.mp hy
  rw [scanButtons_getElem?, Option.map_eq_some_iff] at hk
  obtain ⟨x, hx, rfl⟩ := hk
  have hinv := hxs x (List.mem_of_getElem? hx)
  split
  · exact scanButton_inv hinv _ _ _
  · exact hinv

end Sys2Proof.Machine
end

section
/-! R53 items 3, 5 and 7 for one channel: every operation on a channel keeps `Channel.inv` (44_timer_alarm_scheduler.md R210,
R212, R217, R220, R222; 45_interrupt_arbiter.md R240). -/

namespace Sys2Proof.Machine

variable {floor : Word} {c : Channel}

theorem Channel.reset_inv (floor : Word) : Channel.reset.inv floor := by
  simp [Channel.inv, Channel.reset]

/-- A comparator that matches is armed, so its channel has a callback and no callback in flight may rearm it. -/
theorem fireChannel_inv (hc : c.inv floor) (now : Wide) : (fireChannel now c).inv floor := by
  rcases fireChannel_cases now c with ⟨hdue, h⟩ | ⟨-, h⟩ <;> rw [h]
  · obtain ⟨harmed, -⟩ := Channel.due_eq_true.mp hdue
    obtain ⟨hArmed, -, hRearm, hFloor⟩ := hc
    exact ⟨by simp, fun _ => ⟨hArmed harmed, rfl⟩, fun h => by simp_all, hFloor⟩
  · exact hc

theorem ackChannel_inv (hc : c.inv floor) : (ackChannel c).inv floor := by
  obtain ⟨hArmed, -, hRearm, hFloor⟩ := hc
  refine ⟨hArmed, by simp [ackChannel], fun h => ?_, hFloor⟩
  obtain ⟨hinsvc, hhost, harmed, -⟩ := hRearm h
  exact ⟨hinsvc, hhost, harmed, rfl⟩

/-- A pending channel is not armed, so a `HOST` callback starts on a channel that is neither armed nor pending. -/
theorem enterHostService_ackChannel_inv (hc : c.inv floor) (hpending : c.intr = true) (hhost : c.action = .host) :
    (enterHostService (ackChannel c)).inv floor := by
  obtain ⟨hArmed, hIntr, -, hFloor⟩ := hc
  obtain ⟨-, hdisarmed⟩ := hIntr hpending
  exact ⟨hArmed, by simp [enterHostService, ackChannel], fun _ => ⟨rfl, hhost, hdisarmed, rfl⟩, hFloor⟩

/-- R220: a rearm of a channel that has a callback, is not pending and has no callback in flight that may rearm it. -/
theorem rearmChannel_inv (hc : c.inv floor) (haction : c.action ≠ .none) (hintr : c.intr = false)
    (hrearm : c.rearmOk = false) (now : Wide) : (rearmChannel floor now c).inv floor := by
  obtain ⟨-, -, -, hFloor⟩ := hc
  rcases rearmChannel_cases floor now c with ⟨-, h⟩ | ⟨-, h⟩ <;> rw [h]
  · exact ⟨fun _ => haction, by simp [hintr], by simp [hrearm], hFloor⟩
  · exact ⟨by simp, by simp [hintr], by simp [hrearm], by simp⟩

/-- R240: the rearm after the scan of a pending `SCAN` channel. -/
theorem rearmChannel_ackChannel_inv (hc : c.inv floor) (hscan : c.action = .scan) (now : Wide) :
    (rearmChannel floor now (ackChannel c)).inv floor := by
  have hrearm : c.rearmOk = false := by
    obtain ⟨-, -, hRearm, -⟩ := hc
    by_contra h
    obtain ⟨-, hhost, -⟩ := hRearm (by simpa using h)
    simp [hscan] at hhost
  exact rearmChannel_inv (ackChannel_inv hc) (by simp [ackChannel, hscan]) rfl hrearm now

theorem le_floorClamp (floor staged : Word) : floor.toNat ≤ (floorClamp floor staged).toNat := by
  unfold floorClamp
  split
  · exact le_rfl
  · rename_i h
    exact Nat.le_of_not_lt fun hlt => h (BitVec.lt_def.mpr hlt)

theorem registerChannel_inv {act : AlarmAction} (hact : act ≠ .none) (staged param : Word) (now : Wide) (rep : Bool) :
    (registerChannel floor staged param now rep act c).inv floor :=
  ⟨fun _ => hact, by simp [registerChannel], by simp [registerChannel], fun _ => le_floorClamp floor staged⟩

theorem clearChannel_inv : (clearChannel c).inv floor := by
  simp [Channel.inv, clearChannel]

/-- R222: an end of service rearms only where the registration still stands, and then the channel is a `HOST` channel that is
not pending. -/
theorem leaveHostService_inv (hc : c.inv floor) (now : Wide) : (leaveHostService floor now c).inv floor := by
  obtain ⟨hArmed, hIntr, hRearm, hFloor⟩ := id hc
  rcases leaveHostService_cases floor now c with ⟨-, h⟩ | ⟨-, hno, h⟩ | ⟨-, hyes, h⟩ <;> rw [h]
  · exact hc
  · exact ⟨hArmed, hIntr, by simp [hno], hFloor⟩
  · obtain ⟨-, hhost, -, hintr⟩ := hRearm hyes
    have hleft : ({ c with insvc := false, rearmOk := false } : Channel).inv floor := ⟨hArmed, hIntr, by simp, hFloor⟩
    exact rearmChannel_inv hleft (by simp [hhost]) hintr rfl now

/-- An action that passes `Validate` names a callback (30_encoding.md R97). -/
theorem actionOf_ne_none {act : BitVec 2} (h : act = 1#2 ∨ act = 2#2) : actionOf act ≠ .none := by
  rcases h with rfl | rfl <;> decide

end Sys2Proof.Machine
end

section
/-! The invariant in the middle of a step. All of `State.inv` but item 8 of R53, that nothing is due, holds after every single
operation; what is due is the business of the `Settle` that ends the step (45_interrupt_arbiter.md R245). -/

namespace Sys2Proof.Machine

/-- Every part of the invariant (10_state.md R53) but item 8. -/
structure State.Coherent (s : State) : Prop where
  params : s.params.wf
  buttonCount : s.buttons.length = s.params.nbtn
  channelCount : s.channels.length = s.params.nalm
  buttons : ∀ x ∈ s.buttons, x.inv
  channels : ∀ c ∈ s.channels, c.inv s.params.floorUs
  queueRoom : s.evq.length ≤ s.params.evqDepth
  queueWords : ∀ w ∈ s.evq, queuedWord w = true
  skip : s.skipRem.toNat ≤ s.scanSkip.toNat
  status : s.almStatus ≠ 3#2
  counter : s.counter.toNat < Config.wrapLimit

theorem State.inv_iff_coherent {s : State} : s.inv ↔ s.Coherent ∧ s.settled := by
  constructor
  · rintro ⟨h1, h2, h3, h4, h5, h6, h7, h8, h9, h10, hsettled⟩
    exact ⟨⟨h1, h2, h3, h4, h5, h6, List.all_eq_true.mp h7, h8, h9, h10⟩, hsettled⟩
  · rintro ⟨⟨h1, h2, h3, h4, h5, h6, h7, h8, h9, h10⟩, hsettled⟩
    exact ⟨h1, h2, h3, h4, h5, h6, List.all_eq_true.mpr h7, h8, h9, h10, hsettled⟩

/-- A property of every element survives the rewrite of one, if the rewrite keeps it there. -/
theorem forall_mem_modify {α : Type} {P : α → Prop} {l : List α} {i : Nat} {f : α → α} (hl : ∀ x ∈ l, P x)
    (hf : ∀ x, l[i]? = some x → P x → P (f x)) : ∀ y ∈ l.modify i f, P y := by
  intro y hy
  obtain ⟨j, hj⟩ := List.mem_iff_getElem?.mp hy
  rw [List.getElem?_modify, Option.map_eq_map, Option.map_eq_some_iff] at hj
  obtain ⟨x, hx, rfl⟩ := hj
  have hPx := hl x (List.mem_of_getElem? hx)
  split
  · subst j; exact hf x hx hPx
  · exact hPx

namespace State.Coherent

variable {s : State}

theorem withChannels (h : s.Coherent) {cs : List Channel} (hlen : cs.length = s.channels.length)
    (hcs : ∀ c ∈ cs, c.inv s.params.floorUs) : ({ s with channels := cs } : State).Coherent :=
  { h with channelCount := hlen.trans h.channelCount, channels := hcs }

theorem modifyChannel (h : s.Coherent) {i : Nat} {f : Channel → Channel}
    (hf : ∀ c, s.channels[i]? = some c → c.inv s.params.floorUs → (f c).inv s.params.floorUs) :
    (s.modifyChannel i f).Coherent :=
  h.withChannels (s.modifyChannel_length i f) (forall_mem_modify h.channels hf)

theorem mapChannels (h : s.Coherent) {f : Nat → Channel → Channel}
    (hf : ∀ i c, c.inv s.params.floorUs → (f i c).inv s.params.floorUs) : (s.mapChannels f).Coherent := by
  refine h.withChannels (s.mapChannels_length f) fun c hc => ?_
  obtain ⟨i, hi, rfl⟩ := List.mem_mapIdx.mp hc
  exact hf i _ (h.channels _ (List.getElem_mem hi))

theorem modifyButton (h : s.Coherent) {b : Nat} {f : Button → Button} (hf : ∀ x, (f x).inv) :
    (s.modifyButton b f).Coherent :=
  { h with
    buttonCount := (s.modifyButton_length b f).trans h.buttonCount
    buttons := forall_mem_modify h.buttons fun x _ _ => hf x }

theorem respond (h : s.Coherent) (v : Word) : (s.respond v).Coherent := { h with }

theorem begin (h : s.Coherent) (pins : Word) : (s.begin pins).Coherent := { h with }

theorem setAlmStatus (h : s.Coherent) {v : BitVec 2} (hv : v ≠ 3#2) : (s.setAlmStatus v).Coherent :=
  { h with status := hv }

theorem fireAll (h : s.Coherent) : (fireAll s).Coherent :=
  h.withChannels (fireAll_length s) (List.forall_mem_map.mpr fun c hc => fireChannel_inv (h.channels c hc) s.counter)

theorem groupScan (h : s.Coherent) : (groupScan s).Coherent := by
  rcases groupScan_cases s with ⟨hskip, h'⟩ | ⟨-, h'⟩ <;> rw [h']
  · have hle : (s.skipRem - 1#16).toNat ≤ s.skipRem.toNat := by bv_omega
    exact { h with skip := hle.trans h.skip }
  · obtain ⟨ws, hqueue, hroom⟩ := scanButtons_queue s.pinIn s.scanCnt s.params.evqDepth 0 s.buttons s.evq
    exact { h with
      buttonCount := (scanButtons_length _ _ _ _ _ _).trans h.buttonCount
      buttons := scanButtons_inv _ _ _ _ _ h.buttons
      queueRoom := by simpa only [hqueue] using hroom h.queueRoom
      queueWords := scanButtons_queuedWord _ _ _ _ _ _ h.queueWords }

/-- R240: a service of a pending channel, whatever its callback. -/
theorem service (h : s.Coherent) {i : Nat} {c : Channel} (hc : s.channels[i]? = some c) (hpending : c.intr = true) :
    (service i s).Coherent := by
  rcases service_cases i s with ⟨-, h'⟩ | ⟨_, -, -, h'⟩ | ⟨d, hd, hhost, h'⟩ | ⟨d, hd, hscan, h'⟩ <;> rw [h']
  · exact h
  · exact h.modifyChannel fun _ _ hinv => ackChannel_inv hinv
  · obtain rfl : c = d := Option.some.inj (hc.symm.trans hd)
    have hinv := h.channels c (List.mem_of_getElem? hc)
    refine (h.modifyChannel fun _ _ hinv => ackChannel_inv hinv).modifyChannel fun e he _ => ?_
    rw [State.modifyChannel_getElem?, if_pos rfl, hc, Option.map_some, Option.some.injEq] at he
    exact he ▸ enterHostService_ackChannel_inv hinv hpending hhost
  · have hinv := h.channels d (List.mem_of_getElem? hd)
    refine (h.modifyChannel fun _ _ hinv => ackChannel_inv hinv).groupScan.modifyChannel fun e he _ => ?_
    rw [groupScan_channels, State.modifyChannel_getElem?, if_pos rfl, hd, Option.map_some, Option.some.injEq] at he
    simpa only [groupScan_params, State.modifyChannel_params, he] using rearmChannel_ackChannel_inv hinv hscan _

theorem acknowledge (h : s.Coherent) (mask : BitVec 8) : (acknowledge mask s).Coherent :=
  acknowledge_induct mask (fun _ _ _ hs hc hpending => hs.service hc hpending) h

/-- R215: an `ALM_CMD` write, if its effect keeps what holds wherever the command passes `Validate`. -/
theorem almCommand (h : s.Coherent) {op act : BitVec 2} {id : BitVec 8} {effect : State → State}
    (heffect : (op = 1#2 ∨ op = 2#2 → act = 1#2 ∨ act = 2#2) → ∀ t : State, t.Coherent → (effect t).Coherent) :
    (almCommand op act id effect s).Coherent := by
  rcases almCommand_cases op act id effect s with ⟨hok, h'⟩ | ⟨-, h'⟩ <;> rw [h']
  · obtain ⟨-, -, hact⟩ := commandStatus_ok.mp hok
    exact heffect hact _ (h.setAlmStatus (by decide))
  · refine h.setAlmStatus ?_
    unfold commandStatus
    split_ifs <;> decide

theorem register (h : s.Coherent) {act : AlarmAction} (hact : act ≠ .none) (i : Nat) (rep : Bool) :
    (register i rep act s).Coherent :=
  h.modifyChannel fun _ _ _ => registerChannel_inv hact _ _ _ _

theorem endOfService (h : s.Coherent) (id : BitVec 8) : (endOfService id s).Coherent := by
  rcases endOfService_cases id s with ⟨-, h'⟩ | ⟨-, h'⟩ <;> rw [h']
  · exact h.setAlmStatus (by decide)
  · exact (h.setAlmStatus (by decide)).modifyChannel fun _ _ hinv => leaveHostService_inv hinv _

end State.Coherent

end Sys2Proof.Machine
end

section
/-! From the operations to the step: `exec`, the tick, `Settle` and the reset. -/

namespace Sys2Proof.Machine

theorem State.Coherent.exec {s t : State} {i : Instr} (h : s.Coherent) (ht : exec i s = .next t) : t.Coherent := by
  by_cases hi : Instr.quietRead i = true
  · obtain ⟨v, hv⟩ := exec_of_quietRead hi s
    obtain rfl := answer_eq_next.mp (hv.symm.trans ht)
    exact h.respond v
  cases i with
  | wrBtnStageA | wrBtnStageB | wrAlmInterval | wrAlmParam | wrUnmapped => cases ht; exact { h with }
  | wrBtnCmd index en =>
    simp only [Machine.exec, execWrBtnCmd] at ht
    split at ht <;> cases ht
    · exact h
    · exact h.modifyButton (constructButton_inv _ _ en)
  | wrGrpCfg n => cases ht; exact { h with skip := le_rfl }
  | wrGrpScan => cases ht; exact h.groupScan
  | poll =>
    simp only [Machine.exec, execPoll] at ht
    split at ht <;> cases ht
    · exact h.respond _
    · rename_i e rest hq
      have hroom := h.queueRoom
      have hwords := h.queueWords
      rw [hq] at hroom hwords
      exact { h with
        queueRoom := (Nat.le_succ _).trans hroom
        queueWords := fun w hw => hwords w (List.mem_cons_of_mem e hw) }
  | almClear => cases ht; exact h.almCommand fun _ _ hu => hu.modifyChannel fun _ _ _ => clearChannel_inv
  | almSetOneshot | almSetRepeating =>
    cases ht
    exact h.almCommand fun hact _ hu => hu.register (actionOf_ne_none (hact (by simp))) _ _
  | almCmdRsvd => cases ht; exact h.almCommand fun _ _ hu => hu
  | wrAlmEoi id => cases ht; exact h.endOfService id
  | wrIntr mask => cases ht; exact h.acknowledge mask
  | wrInte | wrInteSet | wrInteClr => cases ht; exact h.mapChannels fun _ _ hinv => hinv
  | _ => exact absurd (by simp [Instr.quietRead, encode, encodeRead]) hi

theorem State.Coherent.tick {s t : State} (h : s.Coherent) (ht : tick s = .next t) : t.Coherent := by
  rcases tick_cases s with ⟨-, h'⟩ | ⟨hlt, h'⟩ <;> rw [h'] at ht <;> cases ht
  have hadd : (s.counter + 1#64).toNat = s.counter.toNat + 1 := by
    unfold Config.wrapLimit at hlt
    bv_omega
  exact { h with counter := hadd ▸ hlt }

/-- R245: `Settle` answers a settled state. -/
theorem settled_of_settle {s t : State} (ht : settle s = some t) : t.settled := by
  obtain ⟨u, rfl, hnone⟩ := settleLoop_exit ht
  intro c hc
  refine ⟨?_, nextScanRequest_eq_none.mp hnone c hc⟩
  obtain ⟨d, -, rfl⟩ := List.mem_map.mp hc
  exact fireChannel_not_due _ d

theorem Channel.intr_of_scanRequest {c : Channel} (h : c.scanRequest = true) : c.intr = true := by
  simp only [Channel.scanRequest, Channel.requesting, Bool.and_eq_true] at h
  exact h.1.1

theorem State.Coherent.settle {s t : State} (h : s.Coherent) (ht : settle s = some t) : t.Coherent :=
  settleLoop_induct (P := State.Coherent) (fun _ hs => hs.fireAll)
    (fun _ _ _ hs hc hreq => hs.service hc (Channel.intr_of_scanRequest hreq)) h ht

/-- A `Settle` turns what holds in the middle of a step into the invariant. -/
theorem inv_of_finish {r : Result} {t : State} (hr : ∀ u, r = .next u → u.Coherent) (ht : finish r = .next t) : t.inv := by
  obtain ⟨u, hu, hsettle⟩ := finish_eq_next.mp ht
  exact State.inv_iff_coherent.mpr ⟨(hr u hu).settle hsettle, settled_of_settle hsettle⟩

/-- The start of a step touches the model's own fields only. -/
theorem nextEnvStep_state (s : State) :
    ∃ rest n pins, (nextEnvStep s).2 = ({ s with agenda := rest, draws := n } : State).begin pins := by
  cases h : s.agenda with
  | cons e rest => exact ⟨rest, s.draws, e.pins, by rw [nextEnvStep_cons h]⟩
  | nil => exact ⟨[], s.draws + 1, (Config.environment s.draws).pins, by rw [nextEnvStep_nil h, h]⟩

theorem State.Coherent.nextEnvStep {s : State} (h : s.Coherent) : (nextEnvStep s).2.Coherent := by
  obtain ⟨rest, n, pins, hs⟩ := nextEnvStep_state s
  rw [hs]
  exact { h with }

theorem resetOf_coherent {p : Params} (hp : p.wf) : (State.resetOf p).Coherent where
  params := hp
  buttonCount := List.length_replicate
  channelCount := List.length_replicate
  buttons x hx := List.eq_of_mem_replicate hx ▸ Button.reset_inv
  channels c hc := List.eq_of_mem_replicate hc ▸ Channel.reset_inv p.floorUs
  queueRoom := Nat.zero_le _
  queueWords := by simp
  skip := le_rfl
  status := show (0#2 : BitVec 2) ≠ 3#2 by decide
  counter := show (0#64 : Wide).toNat < Config.wrapLimit by decide

/-- A channel at reset is neither armed nor pending, so nothing of it is due. -/
theorem resetOf_settled (p : Params) : (State.resetOf p).settled := by
  intro c hc
  obtain rfl := List.eq_of_mem_replicate hc
  exact ⟨rfl, rfl⟩

theorem resetOf_inv {p : Params} (hp : p.wf) : (State.resetOf p).inv :=
  State.inv_iff_coherent.mpr ⟨resetOf_coherent hp, resetOf_settled p⟩

/-- Settles O42: a button and a channel at reset satisfy their parts, and the reference parameters are legal. -/
theorem resetSatisfiesTheInvariant : Obligations.ResetSatisfiesTheInvariant := by
  unfold Obligations.ResetSatisfiesTheInvariant
  exact ⟨fun p hp => resetOf_inv hp, resetOf_inv (by decide)⟩

/-- Settles O43: the operation or the tick keeps all of the invariant but its last part, which the `Settle` restores; a reset
gives the reset state. -/
theorem everyStepKeepsTheInvariant : Obligations.EveryStepKeepsTheInvariant := by
  intro s t hs ht
  have hbegin : (nextEnvStep s).2.Coherent := (State.inv_iff_coherent.mp hs).1.nextEnvStep
  rcases step_cases ht with ⟨-, h⟩ | ⟨w, i, -, -, h⟩ | ⟨-, rfl⟩
  · exact inv_of_finish (fun _ hu => hbegin.tick hu) h
  · exact inv_of_finish (fun _ hu => hbegin.exec hu) h
  · exact resetOf_inv hbegin.params

theorem irq_eq_false_of_resetBlock (s : State) (i : Nat) : (resetBlock s).irq i = false := by
  unfold State.irq
  split
  · rename_i c hc
    obtain rfl := List.eq_of_mem_replicate (List.mem_of_getElem? hc)
    rfl
  · rfl

/-- Settles O41: the step is `resetBlock`, and no channel at reset is pending. -/
theorem resetValues : Obligations.ResetValues := by
  intro s pins rest hagenda
  exact ⟨_, step_of_agenda_cons hagenda, irq_eq_false_of_resetBlock _, rfl⟩

end Sys2Proof.Machine
end

section
/-! Which row a decoded operation comes from (30_encoding.md R86): a read word decodes to a read, and a write word to the
catch-all row or to an entry of the write table at its address. -/

namespace Sys2Proof

/-- A lookup with a default gives the default or an entry of the table at the key. -/
theorem lookup_getD_cases {α β : Type} [BEq α] [LawfulBEq α] (l : List (α × β)) (k : α) (d : β) :
    (l.lookup k).getD d = d ∨ (k, (l.lookup k).getD d) ∈ l := by
  cases h : l.lookup k with
  | none => exact .inl rfl
  | some v =>
    obtain ⟨l₁, l₂, rfl, -⟩ := List.lookup_eq_some_iff.mp h
    exact .inr (by simp)

theorem opRw_encode_fixedReads : ∀ p ∈ fixedReads, opRw (encode p.2) = false := by
  simp [fixedReads, encode, encodeRead]

theorem opRw_encode_channelReads (j : BitVec 3) : ∀ p ∈ channelReads j, opRw (encode p.2) = false := by
  simp [channelReads, encode, encodeRead]

theorem opRw_encode_buttonReads (b : BitVec 5) : ∀ p ∈ buttonReads b, opRw (encode p.2) = false := by
  simp [buttonReads, encode, encodeRead]

/-- A table of reads with the catch-all row as its default gives a read. -/
theorem opRw_encode_lookup_getD {n : Nat} {l : List (BitVec n × Instr)} (hl : ∀ p ∈ l, opRw (encode p.2) = false)
    (k : BitVec n) (a : Addr) : opRw (encode ((l.lookup k).getD (.rdUnmapped a))) = false := by
  rcases lookup_getD_cases l k (.rdUnmapped a) with h | h
  · rw [h]; exact opRw_packOp _ _ _
  · exact hl (_, _) h

/-- What a read word decodes to is a read. -/
theorem opRw_encode_decodeRead (a : Addr) : opRw (encode (decodeRead a)) = false := by
  have hfixed := opRw_encode_lookup_getD opRw_encode_fixedReads a a
  unfold decodeRead
  split
  · rename_i i hi
    rwa [hi] at hfixed
  · split_ifs
    · exact opRw_encode_lookup_getD (opRw_encode_channelReads _) _ a
    · exact opRw_encode_lookup_getD (opRw_encode_buttonReads _) _ a
    · exact opRw_packOp _ _ _

/-- A decoded write comes from a write word: it is the catch-all row, or the entry of the write table at the address. -/
theorem decode_write_cases {w : OpWord} {i : Instr} (h : decode w = .ok i) (hi : opRw (encode i) = true) :
    opRw w = true ∧ (i = .wrUnmapped (opAddr w) ∨ (opAddr w, i) ∈ fixedWrites (opData w)) := by
  unfold decode at h
  split at h <;> cases h
  cases hrw : opRw w with
  | false => simp [hrw, opRw_encode_decodeRead] at hi
  | true => exact ⟨rfl, lookup_getD_cases (fixedWrites (opData w)) (opAddr w) (.wrUnmapped (opAddr w))⟩

theorem decodeAlmCmd_cases (d : Word) :
    decodeAlmCmd d = .almClear (d.extractLsb' 8 8)
      ∨ decodeAlmCmd d = .almSetOneshot (d.extractLsb' 2 2) (d.extractLsb' 8 8)
      ∨ decodeAlmCmd d = .almSetRepeating (d.extractLsb' 2 2) (d.extractLsb' 8 8)
      ∨ decodeAlmCmd d = .almCmdRsvd (d.extractLsb' 8 8) := by
  unfold decodeAlmCmd
  split_ifs <;> simp

/-- A construction comes from a write to `BTN_CMD` that names the button (30_encoding.md R105). -/
theorem decode_eq_wrBtnCmd {w : OpWord} {index : BitVec 8} {en : Bool} (h : decode w = .ok (.wrBtnCmd index en)) :
    opRw w = true ∧ opAddr w = 0x0A8#12 ∧ index.toNat = (opData w).toNat % 256 := by
  obtain ⟨hrw, hrow⟩ := decode_write_cases h (opRw_packOp _ _ _)
  have halm : Instr.wrBtnCmd index en ≠ decodeAlmCmd (opData w) := by
    rcases decodeAlmCmd_cases (opData w) with h' | h' | h' | h' <;> simp [h']
  simp only [fixedWrites, List.mem_cons, Prod.mk.injEq, halm, reduceCtorEq, and_false, false_or, or_false,
    Instr.wrBtnCmd.injEq, List.not_mem_nil] at hrow
  obtain ⟨haddr, rfl, -⟩ := hrow
  exact ⟨hrw, haddr, by simp⟩

end Sys2Proof
end

section
/-! R23, R24: what keeps the configuration and the enable of a button. -/

namespace Sys2Proof.Machine

/-- Button `b` holds the configuration and the enable of `x`. -/
def State.HoldsConfigOf (b : Nat) (x : Button) (s : State) : Prop :=
  ∃ y, s.buttons[b]? = some y ∧ y.cfg = x.cfg ∧ y.en = x.en

variable {b : Nat} {x : Button} {s t : State}

theorem State.HoldsConfigOf.of_buttons_eq (h : s.HoldsConfigOf b x) (heq : t.buttons = s.buttons) : t.HoldsConfigOf b x := by
  rw [State.HoldsConfigOf, heq]; exact h

/-- A scan writes the windows and the repeat counter of a button only (R161). -/
theorem State.HoldsConfigOf.groupScan (h : s.HoldsConfigOf b x) : (groupScan s).HoldsConfigOf b x := by
  rcases groupScan_cases s with ⟨-, h'⟩ | ⟨-, h'⟩ <;> rw [h']
  · exact h
  · obtain ⟨y, hy, hcfg, hen⟩ := h
    refine ⟨_, by rw [scanButtons_getElem?, hy, Option.map_some], ?_⟩
    split <;> exact ⟨hcfg, hen⟩

/-- A construction of another button (R159). -/
theorem State.HoldsConfigOf.modifyButton (h : s.HoldsConfigOf b x) {j : Nat} (hj : j ≠ b) (f : Button → Button) :
    (s.modifyButton j f).HoldsConfigOf b x := by
  rw [State.HoldsConfigOf, State.modifyButton_getElem?, if_neg hj]; exact h

/-- Of the services, only that of a `SCAN` channel touches the buttons, by a scan. -/
theorem State.HoldsConfigOf.service (h : s.HoldsConfigOf b x) (i : Nat) : (service i s).HoldsConfigOf b x := by
  rcases service_cases i s with ⟨-, h'⟩ | ⟨_, -, -, h'⟩ | ⟨_, -, -, h'⟩ | ⟨_, -, -, h'⟩ <;> rw [h']
  · exact h
  · exact h.of_buttons_eq rfl
  · exact h.of_buttons_eq rfl
  · have hack : (s.modifyChannel i ackChannel).HoldsConfigOf b x := h.of_buttons_eq rfl
    exact hack.groupScan.of_buttons_eq rfl

theorem State.HoldsConfigOf.acknowledge (h : s.HoldsConfigOf b x) (mask : BitVec 8) :
    (acknowledge mask s).HoldsConfigOf b x :=
  acknowledge_induct mask (fun _ i _ hs _ _ => hs.service i) h

theorem State.HoldsConfigOf.settle (h : s.HoldsConfigOf b x) (ht : settle s = some t) : t.HoldsConfigOf b x :=
  settleLoop_induct (P := State.HoldsConfigOf b x) (fun _ hs => hs.of_buttons_eq rfl) (fun _ i _ hs _ _ => hs.service i) h ht

theorem State.HoldsConfigOf.finish {r : Result} (hr : ∀ u, r = .next u → u.HoldsConfigOf b x) (ht : finish r = .next t) :
    t.HoldsConfigOf b x := by
  obtain ⟨u, hu, hsettle⟩ := finish_eq_next.mp ht
  exact (hr u hu).settle hsettle

theorem almCommand_buttons {effect : State → State} (heffect : ∀ u : State, (effect u).buttons = u.buttons)
    (op act : BitVec 2) (id : BitVec 8) (s : State) : (almCommand op act id effect s).buttons = s.buttons := by
  rcases almCommand_cases op act id effect s with ⟨-, h⟩ | ⟨-, h⟩ <;> rw [h]
  · exact heffect _
  · rfl

theorem endOfService_buttons (id : BitVec 8) (s : State) : (endOfService id s).buttons = s.buttons := by
  rcases endOfService_cases id s with ⟨-, h⟩ | ⟨-, h⟩ <;> rw [h] <;> rfl

/-- Of the operations, only the construction of button `b` changes its configuration or its enable. -/
theorem State.HoldsConfigOf.exec {i : Instr} (h : s.HoldsConfigOf b x)
    (hi : ∀ index en, i = .wrBtnCmd index en → index.toNat ≠ b) (ht : exec i s = .next t) : t.HoldsConfigOf b x := by
  by_cases hread : Instr.quietRead i = true
  · obtain ⟨v, hv⟩ := exec_of_quietRead hread s
    obtain rfl := answer_eq_next.mp (hv.symm.trans ht)
    exact h.of_buttons_eq rfl
  cases i with
  | wrBtnStageA | wrBtnStageB | wrGrpCfg | wrAlmInterval | wrAlmParam | wrInte | wrInteSet | wrInteClr | wrUnmapped =>
    cases ht; exact h.of_buttons_eq rfl
  | wrBtnCmd index en =>
    simp only [Machine.exec, execWrBtnCmd] at ht
    split at ht <;> cases ht
    · exact h
    · exact h.modifyButton (hi index en rfl) _
  | wrGrpScan => cases ht; exact h.groupScan
  | poll =>
    simp only [Machine.exec, execPoll] at ht
    split at ht <;> cases ht <;> exact h.of_buttons_eq rfl
  | almClear | almSetOneshot | almSetRepeating | almCmdRsvd =>
    cases ht
    refine h.of_buttons_eq (almCommand_buttons ?_ _ _ _ s)
    exact fun _ => rfl
  | wrAlmEoi id => cases ht; exact h.of_buttons_eq (endOfService_buttons id s)
  | wrIntr mask => cases ht; exact h.acknowledge mask
  | _ => exact absurd (by simp [Instr.quietRead, encode, encodeRead]) hread

theorem State.HoldsConfigOf.tick (h : s.HoldsConfigOf b x) (ht : tick s = .next t) : t.HoldsConfigOf b x := by
  rcases tick_cases s with ⟨-, h'⟩ | ⟨-, h'⟩ <;> rw [h'] at ht <;> cases ht
  exact h.of_buttons_eq rfl

theorem nextEnvStep_buttons (s : State) : (nextEnvStep s).2.buttons = s.buttons := by
  obtain ⟨rest, n, pins, h⟩ := nextEnvStep_state s
  rw [h]; rfl

/-- Settles O48: the operation of the step is no construction of button `b`, and the `Settle` only scans. -/
theorem configurationIsSetByConstructionOnly : Obligations.ConfigurationIsSetByConstructionOnly := by
  intro s t a b x ha ht hreset hcmd hx
  have hbegin : (nextEnvStep s).2.HoldsConfigOf b x := ⟨x, by rw [nextEnvStep_buttons, hx], rfl, rfl⟩
  rcases step_cases ht with ⟨-, h⟩ | ⟨w, i, hw, hdecode, h⟩ | ⟨hr, -⟩
  · exact State.HoldsConfigOf.finish (fun _ hu => hbegin.tick hu) h
  · have hother : ∀ index en, i = .wrBtnCmd index en → index.toNat ≠ b := by
      rintro index en rfl rfl
      obtain ⟨hrw, haddr, hindex⟩ := decode_eq_wrBtnCmd hdecode
      exact hcmd w (ha.symm.trans hw) ⟨hrw, haddr, hindex.symm⟩
    exact State.HoldsConfigOf.finish (fun _ hu => hbegin.exec hother hu) h
  · exact absurd (ha.symm.trans hr) hreset

end Sys2Proof.Machine
end

section
/-! The read and the write that an address names (30_encoding.md R86, R89): by the block that the address lies in, and by the
catch-all row where the map lists no register. -/

namespace Sys2Proof

/-- A key that no entry of a table has is not found in it. -/
theorem lookup_eq_none_of_notMem {α β : Type} [BEq α] [LawfulBEq α] {l : List (α × β)} {k : α}
    (h : k ∉ l.map Prod.fst) : l.lookup k = none :=
  List.lookup_eq_none_iff.mpr fun _ hp => bne_iff_ne.mpr fun heq => h (heq ▸ List.mem_map_of_mem hp)

/-- The fixed registers lie below the blocks. -/
theorem notMem_readableFixed {a : Addr} (ha : 0x100 ≤ a.toNat) : a ∉ readableFixed := by
  have hbelow : ∀ k ∈ readableFixed, k.toNat < 0x100 := by simp [readableFixed]
  exact fun hmem => absurd (hbelow a hmem) (Nat.not_lt.mpr ha)

theorem fixedReads_lookup_eq_none {a : Addr} (h : a ∉ readableFixed) : fixedReads.lookup a = none :=
  lookup_eq_none_of_notMem h

theorem decodeRead_of_channelBlock {a : Addr} (h : 0x100 ≤ a.toNat ∧ a.toNat ≤ 0x1FF) :
    decodeRead a = ((channelReads (a.extractLsb' 5 3)).lookup (a.extractLsb' 0 5)).getD (.rdUnmapped a) := by
  rw [decodeRead, fixedReads_lookup_eq_none (notMem_readableFixed h.1)]
  exact if_pos h

theorem decodeRead_of_buttonBlock {a : Addr} (h : 0x400 ≤ a.toNat ∧ a.toNat ≤ 0x7FF) :
    decodeRead a = ((buttonReads (a.extractLsb' 5 5)).lookup (a.extractLsb' 0 5)).getD (.rdUnmapped a) := by
  rw [decodeRead, fixedReads_lookup_eq_none (notMem_readableFixed (by omega))]
  exact (if_neg (by omega)).trans (if_pos h)

/-- An address is not listed as readable: no fixed register has it, and no register of the block it lies in. -/
theorem namedRead_eq_false {a : Addr} :
    namedRead a = false ↔ a ∉ readableFixed
      ∧ (0x100 ≤ a.toNat ∧ a.toNat ≤ 0x1FF → a.extractLsb' 0 5 ∉ readableInChannel)
      ∧ (0x400 ≤ a.toNat ∧ a.toNat ≤ 0x7FF → a.extractLsb' 0 5 ∉ readableInButton) := by
  simp [namedRead, and_assoc]

theorem decodeRead_of_not_namedRead {a : Addr} (h : namedRead a = false) : decodeRead a = .rdUnmapped a := by
  obtain ⟨hfixed, hchannel, hbutton⟩ := namedRead_eq_false.mp h
  by_cases hc : 0x100 ≤ a.toNat ∧ a.toNat ≤ 0x1FF
  · rw [decodeRead_of_channelBlock hc, lookup_eq_none_of_notMem (hchannel hc)]; rfl
  by_cases hb : 0x400 ≤ a.toNat ∧ a.toNat ≤ 0x7FF
  · rw [decodeRead_of_buttonBlock hb, lookup_eq_none_of_notMem (hbutton hb)]; rfl
  rw [decodeRead, fixedReads_lookup_eq_none hfixed]
  exact (if_neg hc).trans (if_neg hb)

theorem decodeWrite_of_not_namedWrite {a : Addr} (h : namedWrite a = false) (d : Word) :
    decodeWrite a d = .wrUnmapped a := by
  have hkeys : (fixedWrites d).map Prod.fst = writableFixed := rfl
  have ha : a ∉ writableFixed := by simpa [namedWrite] using h
  rw [decodeWrite, lookup_eq_none_of_notMem (hkeys ▸ ha)]; rfl

theorem wordAligned_of_toNat_mod {a : Addr} (h : a.toNat % 4 = 0) : wordAligned a = true :=
  beq_iff_eq.mpr (BitVec.eq_of_toNat_eq (by simpa using h))

theorem decode_packOp_read {a : Addr} (ha : wordAligned a = true) (d : Word) :
    decode (packOp false a d) = .ok (decodeRead a) := by
  simp [decode, ha]

theorem decode_packOp_write {a : Addr} (ha : wordAligned a = true) (d : Word) :
    decode (packOp true a d) = .ok (decodeWrite a d) := by
  simp [decode, ha]

/-! ## The fields of a block address (R89) -/

theorem channelOffset_toNat (j : BitVec 3) (off : BitVec 5) :
    (channelOffset j off).toNat = 0x100 + 0x20 * j.toNat + off.toNat := by
  unfold channelOffset; bv_omega

theorem buttonOffset_toNat (b : BitVec 5) (off : BitVec 5) :
    (buttonOffset b off).toNat = 0x400 + 0x20 * b.toNat + off.toNat := by
  unfold buttonOffset; bv_omega

theorem channelOffset_index (j : BitVec 3) (off : BitVec 5) : (channelOffset j off).extractLsb' 5 3 = j := by
  apply BitVec.eq_of_toNat_eq
  rw [BitVec.extractLsb'_toNat, channelOffset_toNat, Nat.shiftRight_eq_div_pow]
  omega

theorem channelOffset_register (j : BitVec 3) (off : BitVec 5) : (channelOffset j off).extractLsb' 0 5 = off := by
  apply BitVec.eq_of_toNat_eq
  rw [BitVec.extractLsb'_toNat, channelOffset_toNat, Nat.shiftRight_zero]
  omega

theorem buttonOffset_index (b : BitVec 5) (off : BitVec 5) : (buttonOffset b off).extractLsb' 5 5 = b := by
  apply BitVec.eq_of_toNat_eq
  rw [BitVec.extractLsb'_toNat, buttonOffset_toNat, Nat.shiftRight_eq_div_pow]
  omega

theorem buttonOffset_register (b : BitVec 5) (off : BitVec 5) : (buttonOffset b off).extractLsb' 0 5 = off := by
  apply BitVec.eq_of_toNat_eq
  rw [BitVec.extractLsb'_toNat, buttonOffset_toNat, Nat.shiftRight_zero]
  omega

/-! ## The word of a read decodes to the read -/

theorem decode_encodeRead_channelOffset (j : BitVec 3) {off : BitVec 5} (hoff : off.toNat % 4 = 0) :
    decode (encodeRead (channelOffset j off))
      = .ok (((channelReads j).lookup off).getD (.rdUnmapped (channelOffset j off))) := by
  have ha := channelOffset_toNat j off
  rw [encodeRead, decode_packOp_read (wordAligned_of_toNat_mod (by omega)), decodeRead_of_channelBlock (by omega),
    channelOffset_index, channelOffset_register]

theorem decode_encodeRead_buttonOffset (b : BitVec 5) {off : BitVec 5} (hoff : off.toNat % 4 = 0) :
    decode (encodeRead (buttonOffset b off))
      = .ok (((buttonReads b).lookup off).getD (.rdUnmapped (buttonOffset b off))) := by
  have ha := buttonOffset_toNat b off
  rw [encodeRead, decode_packOp_read (wordAligned_of_toNat_mod (by omega)), decodeRead_of_buttonBlock (by omega),
    buttonOffset_index, buttonOffset_register]

theorem decode_encode_of_read {i : Instr} (hi : opRw (encode i) = false) (hwf : i.wellFormed = true) :
    decode (encode i) = .ok i := by
  cases i with
  | wrBtnStageA | wrBtnStageB | wrBtnCmd | wrGrpCfg | wrGrpScan | wrAlmInterval | wrAlmParam | almClear
  | almSetOneshot | almSetRepeating | almCmdRsvd | wrAlmEoi | wrIntr | wrInte | wrInteSet | wrInteClr | wrUnmapped =>
    simp [encode, encodeWrite] at hi
  | rdAlmTargetLo j | rdAlmTargetHi j | rdAlmIntervalI j | rdAlmParamI j | rdAlmCtrl j =>
    exact decode_encodeRead_channelOffset j (by decide)
  | rdBtnCfgA b | rdBtnCfgB b | rdBtnRawLo b | rdBtnRawHi b | rdBtnFiltLo b | rdBtnFiltHi b | rdBtnRep b =>
    exact decode_encodeRead_buttonOffset b (by decide)
  | rdUnmapped a =>
    obtain ⟨halign, hnamed⟩ : wordAligned a = true ∧ namedRead a = false := by simpa [Instr.wellFormed] using hwf
    rw [encode, encodeRead, decode_packOp_read halign, decodeRead_of_not_namedRead hnamed]
  | _ => rfl

end Sys2Proof
end

section
/-! What the register map holds at an address (30_encoding.md R90), by the block that the address lies in. -/

namespace Sys2Proof.Machine

theorem fixedRegisters_lookup_eq_none {a : Addr} (h : a ∉ readableFixed) (s : State) :
    (fixedRegisters s).lookup a = none :=
  lookup_eq_none_of_notMem h

theorem registerAt_of_channelBlock {a : Addr} (h : 0x100 ≤ a.toNat ∧ a.toNat ≤ 0x1FF) (s : State) :
    registerAt s a = s.channelView (a.extractLsb' 5 3).toNat fun c =>
      ((channelRegisters c).lookup (a.extractLsb' 0 5)).getD 0#32 := by
  rw [registerAt, fixedRegisters_lookup_eq_none (notMem_readableFixed h.1)]
  exact if_pos h

theorem registerAt_of_buttonBlock {a : Addr} (h : 0x400 ≤ a.toNat ∧ a.toNat ≤ 0x7FF) (s : State) :
    registerAt s a = s.buttonView (a.extractLsb' 5 5).toNat fun x =>
      ((buttonRegisters x).lookup (a.extractLsb' 0 5)).getD 0#32 := by
  rw [registerAt, fixedRegisters_lookup_eq_none (notMem_readableFixed (by omega))]
  exact (if_neg (by omega)).trans (if_pos h)

theorem registerAt_channelOffset (s : State) (j : BitVec 3) (off : BitVec 5) :
    registerAt s (channelOffset j off)
      = s.channelView j.toNat fun c => ((channelRegisters c).lookup off).getD 0#32 := by
  have hblock : 0x100 ≤ (channelOffset j off).toNat ∧ (channelOffset j off).toNat ≤ 0x1FF := by
    rw [channelOffset_toNat]; omega
  rw [registerAt_of_channelBlock hblock, channelOffset_index, channelOffset_register]

theorem registerAt_buttonOffset (s : State) (b : BitVec 5) (off : BitVec 5) :
    registerAt s (buttonOffset b off)
      = s.buttonView b.toNat fun x => ((buttonRegisters x).lookup off).getD 0#32 := by
  have hblock : 0x400 ≤ (buttonOffset b off).toNat ∧ (buttonOffset b off).toNat ≤ 0x7FF := by
    rw [buttonOffset_toNat]; omega
  rw [registerAt_of_buttonBlock hblock, buttonOffset_index, buttonOffset_register]

theorem State.channelView_zero (s : State) (i : Nat) : (s.channelView i fun _ => 0#32) = 0#32 := by
  unfold State.channelView; split <;> rfl

theorem State.buttonView_zero (s : State) (b : Nat) : (s.buttonView b fun _ => 0#32) = 0#32 := by
  unfold State.buttonView; split <;> rfl

/-- R69: where the map lists no readable register, the content is 0. -/
theorem registerAt_of_not_namedRead {a : Addr} (h : namedRead a = false) (s : State) : registerAt s a = 0#32 := by
  obtain ⟨hfixed, hchannel, hbutton⟩ := namedRead_eq_false.mp h
  by_cases hc : 0x100 ≤ a.toNat ∧ a.toNat ≤ 0x1FF
  · have hnone (c : Channel) : (channelRegisters c).lookup (a.extractLsb' 0 5) = none :=
      lookup_eq_none_of_notMem (hchannel hc)
    simp only [registerAt_of_channelBlock hc, hnone, Option.getD_none, State.channelView_zero]
  by_cases hb : 0x400 ≤ a.toNat ∧ a.toNat ≤ 0x7FF
  · have hnone (x : Button) : (buttonRegisters x).lookup (a.extractLsb' 0 5) = none :=
      lookup_eq_none_of_notMem (hbutton hb)
    simp only [registerAt_of_buttonBlock hb, hnone, Option.getD_none, State.buttonView_zero]
  rw [registerAt, fixedRegisters_lookup_eq_none hfixed]
  exact (if_neg hc).trans (if_neg hb)

end Sys2Proof.Machine
end

section
/-! A read answers what the register map holds at its address (20_memory.md R67), and in a settled state the `Settle` after it
does nothing (45_interrupt_arbiter.md R245). -/

namespace Sys2Proof.Machine

/-- `INTR & INTE` by mask is `INTS` by channel (45_interrupt_arbiter.md R237). -/
theorem channelMask_and (f g : Channel → Bool) (s : State) :
    channelMask f s &&& channelMask g s = channelMask (fun c => f c && g c) s := by
  apply BitVec.eq_of_getLsbD_eq
  intro i hi
  simp only [channelMask, BitVec.getLsbD_and, bitmask_getLsbD, hi, decide_true, Bool.true_and, List.getElem?_map]
  cases s.channels[i]? <;> rfl

theorem quietRead_iff {i : Instr} : Instr.quietRead i = true ↔ opRw (encode i) = false ∧ i ≠ .poll := by
  simp [Instr.quietRead]

theorem exec_eq_answer_registerAt {i : Instr} (hi : Instr.quietRead i = true) (hwf : i.wellFormed = true) (s : State) :
    exec i s = answer (registerAt s (opAddr (encode i))) s := by
  cases i with
  | wrBtnStageA | wrBtnStageB | wrBtnCmd | wrGrpCfg | wrGrpScan | poll | wrAlmInterval | wrAlmParam | almClear
  | almSetOneshot | almSetRepeating | almCmdRsvd | wrAlmEoi | wrIntr | wrInte | wrInteSet | wrInteClr | wrUnmapped =>
    simp [quietRead_iff, encode, encodeWrite] at hi
  | rdAlmTargetLo | rdAlmTargetHi | rdAlmIntervalI | rdAlmParamI | rdAlmCtrl =>
    rw [encode, encodeRead, opAddr_packOp, registerAt_channelOffset]; rfl
  | rdBtnCfgA | rdBtnCfgB | rdBtnRawLo | rdBtnRawHi | rdBtnFiltLo | rdBtnFiltHi | rdBtnRep =>
    rw [encode, encodeRead, opAddr_packOp, registerAt_buttonOffset]; rfl
  | rdInts => exact congrArg (answer · s) (channelMask_and Channel.intr Channel.inte s)
  | rdUnmapped a =>
    obtain ⟨-, hnamed⟩ : wordAligned a = true ∧ namedRead a = false := by simpa [Instr.wellFormed] using hwf
    rw [encode, encodeRead, opAddr_packOp, registerAt_of_not_namedRead hnamed]; rfl
  | _ => rfl

theorem fireAll_of_settled {s : State} (h : s.settled) : fireAll s = s := by
  have hfire (c : Channel) (hc : c ∈ s.channels) : fireChannel s.counter c = c := by
    simp [fireChannel, (h c hc).1]
  rw [fireAll, List.map_congr_left hfire, List.map_id']

/-- R245: no comparator matches and no `SCAN` channel requests, so `Settle` ends at once. -/
theorem settle_of_settled {s : State} (h : s.settled) : settle s = some s := by
  have hnone : nextScanRequest s = none := nextScanRequest_eq_none.mpr fun c hc => (h c hc).2
  simp [settle, settleLoop, fireAll_of_settled h, hnone]

/-- Settles O45: the word of the read decodes to it, the read answers what the map holds, and the `Settle` after it keeps a
settled state. -/
theorem quietReadsChangeNothing : Obligations.QuietReadsChangeNothing := by
  intro s i pins rest hsettled hwf hquiet hagenda
  obtain ⟨hread, -⟩ := quietRead_iff.mp hquiet
  have hstep := step_of_scheduled_access hagenda (decode_encode_of_read hread hwf)
  have hexec := exec_eq_answer_registerAt hquiet hwf (({ s with agenda := rest } : State).begin pins)
  exact hstep.trans (finish_eq_next.mpr ⟨_, hexec, settle_of_settled hsettled⟩)

end Sys2Proof.Machine
end

section
/-! Accesses to addresses that the register map does not list, and to the blocks at `NALM` and `NBTN` and above (20_memory.md
R69). -/

namespace Sys2Proof.Machine

theorem exec_channelReads_of_ge {s : State} {j : BitVec 3} (h : s.params.nalm ≤ j.toNat) :
    ∀ p ∈ channelReads j, exec p.2 s = answer 0#32 s := by
  simp [channelReads, exec, execRdAlmTargetLo, execRdAlmTargetHi, execRdAlmIntervalI, execRdAlmParamI, execRdAlmCtrl,
    State.channelView_of_ge _ h]

theorem exec_buttonReads_of_ge {s : State} {b : BitVec 5} (h : s.params.nbtn ≤ b.toNat) :
    ∀ p ∈ buttonReads b, exec p.2 s = answer 0#32 s := by
  simp [buttonReads, exec, execRdBtnCfgA, execRdBtnCfgB, execRdBtnRawLo, execRdBtnRawHi, execRdBtnFiltLo, execRdBtnFiltHi,
    execRdBtnRep, State.buttonView_of_ge _ h]

/-- A table of reads that return 0, with the catch-all row as its default, gives a read that returns 0. -/
theorem exec_lookup_getD_eq_zero {n : Nat} {l : List (BitVec n × Instr)} {s : State}
    (hl : ∀ p ∈ l, exec p.2 s = answer 0#32 s) (k : BitVec n) (a : Addr) :
    exec ((l.lookup k).getD (.rdUnmapped a)) s = answer 0#32 s := by
  rcases lookup_getD_cases l k (.rdUnmapped a) with h | h
  · rw [h]; rfl
  · exact hl (_, _) h

theorem exec_decodeRead_of_ge_nalm {s : State} {a : Addr} (hlo : 0x100 + 0x20 * s.params.nalm ≤ a.toNat)
    (hhi : a.toNat < 0x200) : exec (decodeRead a) s = answer 0#32 s := by
  have hindex : (a.extractLsb' 5 3).toNat = a.toNat / 2 ^ 5 % 2 ^ 3 := by
    rw [BitVec.extractLsb'_toNat, Nat.shiftRight_eq_div_pow]
  rw [decodeRead_of_channelBlock (by omega)]
  exact exec_lookup_getD_eq_zero (exec_channelReads_of_ge (by omega)) _ a

theorem exec_decodeRead_of_ge_nbtn {s : State} {a : Addr} (hlo : 0x400 + 0x20 * s.params.nbtn ≤ a.toNat)
    (hhi : a.toNat < 0x800) : exec (decodeRead a) s = answer 0#32 s := by
  have hindex : (a.extractLsb' 5 5).toNat = a.toNat / 2 ^ 5 % 2 ^ 5 := by
    rw [BitVec.extractLsb'_toNat, Nat.shiftRight_eq_div_pow]
  rw [decodeRead_of_buttonBlock (by omega)]
  exact exec_lookup_getD_eq_zero (exec_buttonReads_of_ge (by omega)) _ a

/-- Settles O46: an address that is not listed decodes to its catch-all row; at an index that names no channel or button, the
row of the decoder's table and the catch-all row both return 0. -/
theorem unmappedAccesses : Obligations.UnmappedAccesses := by
  intro s a d haligned
  have hread := decode_packOp_read (wordAligned_of_toNat_mod haligned) d
  have hwrite := decode_packOp_write (wordAligned_of_toNat_mod haligned) d
  refine ⟨fun h => ⟨?_, rfl⟩, fun h => ⟨?_, rfl⟩, fun hlo hhi => ⟨_, hread, exec_decodeRead_of_ge_nalm hlo hhi⟩,
    fun hlo hhi => ⟨_, hread, exec_decodeRead_of_ge_nbtn hlo hhi⟩, rfl, rfl⟩
  · rw [hread, decodeRead_of_not_namedRead h]
  · rw [hwrite, decodeWrite_of_not_namedWrite h]

end Sys2Proof.Machine
end

section
/-! The write that an address names, with the fields of its data word (30_encoding.md R87, R95 to R105), and the round trip of
decoding and encoding. -/

namespace Sys2Proof

/-- A row of the write table takes every data word at its address. -/
theorem decode_packOp_write_of_lookup {a : Addr} {d : Word} {i : Instr} (halign : wordAligned a = true)
    (hrow : (fixedWrites d).lookup a = some i) : decode (packOp true a d) = .ok i := by
  rw [decode_packOp_write halign, decodeWrite, hrow, Option.getD_some]

/-- R97: the row of `ALM_CMD` goes by the op-code of the data word. -/
theorem decode_packOp_almCmd (d : Word) : decode (packOp true 0x048#12 d) = .ok (decodeAlmCmd d) :=
  decode_packOp_write_of_lookup rfl rfl

theorem decodeAlmCmd_almCmdData (op act : BitVec 2) (id : BitVec 8) :
    decodeAlmCmd (almCmdData op act id)
      = if op = 0#2 then .almClear id else if op = 1#2 then .almSetOneshot act id
        else if op = 2#2 then .almSetRepeating act id else .almCmdRsvd id := by
  simp only [decodeAlmCmd, almCmdData_op, almCmdData_act, almCmdData_id]

/-- An operand in the low bits of a data word is read back. -/
theorem setWidth_word_extractLsb' {n : Nat} (hn : n ≤ 32) (x : BitVec n) : (x.setWidth 32).extractLsb' 0 n = x := by
  rw [BitVec.extractLsb'_setWidth_of_le (by omega), ← BitVec.setWidth_eq_extractLsb' le_rfl, BitVec.setWidth_eq]

/-- The word of a write decodes to the write. -/
theorem decode_encode_of_write {i : Instr} (hi : opRw (encode i) = true) (hwf : i.wellFormed = true) :
    decode (encode i) = .ok i := by
  cases i with
  | wrIntr mask | wrInte mask | wrInteSet mask | wrInteClr mask | wrAlmEoi mask | wrGrpCfg mask =>
    rw [encode, encodeWrite, decode_packOp_write_of_lookup rfl rfl, setWidth_word_extractLsb' (by decide)]
  | wrBtnStageA data | wrBtnStageB data | wrAlmInterval data | wrAlmParam data =>
    exact decode_packOp_write_of_lookup rfl rfl
  | wrGrpScan => exact decode_packOp_write_of_lookup rfl rfl
  | wrBtnCmd index en =>
    rw [encode, encodeWrite, decode_packOp_write_of_lookup rfl rfl, btnCmdData_index, btnCmdData_en]
  | almClear id | almCmdRsvd id | almSetOneshot act id | almSetRepeating act id =>
    rw [encode, encodeWrite, decode_packOp_almCmd, decodeAlmCmd_almCmdData]; rfl
  | wrUnmapped a =>
    obtain ⟨halign, hnamed⟩ : wordAligned a = true ∧ namedWrite a = false := by simpa [Instr.wellFormed] using hwf
    rw [encode, encodeWrite, decode_packOp_write halign, decodeWrite_of_not_namedWrite hnamed]
  | _ => simp [encode, encodeRead] at hi

/-- Settles O56, by the direction of the operation: the reads go back through the block of their address, the writes through
the fields of their data word. -/
theorem decodeOfEncode : Obligations.DecodeOfEncode := by
  intro i hwf
  cases hrw : opRw (encode i) with
  | false => exact decode_encode_of_read hrw hwf
  | true => exact decode_encode_of_write hrw hwf

end Sys2Proof
end

section
/-! The operands of a write by position (30_encoding.md R87, R95 to R105), and operation words written out by hand. -/

namespace Sys2Proof

/-- A field of a data word, as a quotient of its value. -/
theorem word_extractLsb'_eq_ofNat (d : Word) (start len : Nat) :
    d.extractLsb' start len = BitVec.ofNat len (d.toNat / 2 ^ start) := by
  rw [BitVec.extractLsb', Nat.shiftRight_eq_div_pow]

theorem word_opCode_eq_iff (d : Word) (op : BitVec 2) : d.extractLsb' 0 2 = op ↔ d.toNat % 4 = op.toNat := by
  rw [← BitVec.toNat_inj, BitVec.extractLsb'_toNat, Nat.shiftRight_zero]

/-- R97: the four commands, by the op-code and the fields as quotients of the data word. -/
theorem decodeAlmCmd_eq (d : Word) :
    decodeAlmCmd d
      = if d.toNat % 4 = 0 then .almClear (BitVec.ofNat 8 (d.toNat / 256))
        else if d.toNat % 4 = 1 then .almSetOneshot (BitVec.ofNat 2 (d.toNat / 4)) (BitVec.ofNat 8 (d.toNat / 256))
        else if d.toNat % 4 = 2 then .almSetRepeating (BitVec.ofNat 2 (d.toNat / 4)) (BitVec.ofNat 8 (d.toNat / 256))
        else .almCmdRsvd (BitVec.ofNat 8 (d.toNat / 256)) := by
  simp only [decodeAlmCmd, word_opCode_eq_iff]
  simp only [word_extractLsb'_eq_ofNat]
  rfl

/-- R105: the enable of a construction is bit 8. -/
theorem word_getLsbD_eight (d : Word) : d.getLsbD 8 = decide (d.toNat / 256 % 2 = 1) := by
  rw [BitVec.getLsbD, Nat.testBit_eq_decide_div_mod_eq]

/-- R105: the construction that a data word asks for. -/
theorem decode_packOp_btnCmd (d : Word) :
    decode (packOp true 0x0A8#12 d) = .ok (.wrBtnCmd (BitVec.ofNat 8 d.toNat) (decide (d.toNat / 256 % 2 = 1))) := by
  rw [← word_getLsbD_eight]
  exact decode_packOp_write_of_lookup rfl rfl

/-- Settles O58: each write is the entry of the write table at its address, whose fields start at bit 0 but for those of
`BTN_CMD` and `ALM_CMD`. -/
theorem writeOperandsAreDataFields : Obligations.WriteOperandsAreDataFields := by
  intro d
  refine ⟨?_, ?_, ?_, ?_, ?_, ?_, ?_, ?_, ?_, ?_, ?_, decode_packOp_btnCmd d,
    (decode_packOp_almCmd d).trans (congrArg Except.ok (decodeAlmCmd_eq d))⟩ <;>
    exact decode_packOp_write_of_lookup rfl rfl

/-- Settles O59, by running the decoder on each word. -/
theorem writtenOutWords : Obligations.WrittenOutWords := by
  unfold Obligations.WrittenOutWords
  decide

end Sys2Proof
end

section
/-! The rows of the opcode table (30_encoding.md R86): what a row asks of the fields of a word. -/

namespace Sys2Proof

theorem packOp_and (rw rw' : Bool) (a a' : Addr) (d d' : Word) :
    packOp rw a d &&& packOp rw' a' d' = packOp (rw && rw') (a &&& a') (d &&& d') := by
  refine BitVec.eq_of_getLsbD_eq fun i hi => ?_
  simp only [BitVec.getLsbD_and, packOp_getLsbD]
  split_ifs
  · rfl
  · rfl
  · cases decide (i = 44) <;> rfl

theorem packOp_inj {rw rw' : Bool} {a a' : Addr} {d d' : Word} :
    packOp rw a d = packOp rw' a' d' ↔ rw = rw' ∧ a = a' ∧ d = d' := by
  refine ⟨fun h => ⟨?_, ?_, ?_⟩, fun ⟨hrw, ha, hd⟩ => by rw [hrw, ha, hd]⟩
  · simpa using congrArg opRw h
  · simpa using congrArg opAddr h
  · simpa using congrArg opData h

/-- A row takes a word field by field. -/
theorem and_packOp_eq_packOp_iff {t : OpWord} {rw rw' : Bool} {a a' : Addr} {d d' : Word} :
    t &&& packOp rw a d = packOp rw' a' d'
      ↔ (opRw t && rw) = rw' ∧ opAddr t &&& a = a' ∧ opData t &&& d = d' := by
  conv_lhs => rw [← packOp_fields t, packOp_and]
  exact packOp_inj

theorem addr_and_fullMask (a : Addr) : a &&& 0xFFF#12 = a := BitVec.and_allOnes

/-- The row of a fixed register takes the words of its direction and address. -/
theorem and_addrMask_eq_iff {t : OpWord} {rw : Bool} {a : Addr} :
    t &&& 0x1FFF00000000#45 = packOp rw a 0#32 ↔ opRw t = rw ∧ opAddr t = a := by
  have hmask : 0x1FFF00000000#45 = packOp true 0xFFF#12 0#32 := by decide
  rw [hmask, and_packOp_eq_packOp_iff, addr_and_fullMask, Bool.and_true]
  simp

theorem word_and_three_eq_iff {d : Word} {op : BitVec 2} : d &&& 3#32 = op.setWidth 32 ↔ d.extractLsb' 0 2 = op := by
  have hlow : d.toNat &&& 3 = d.toNat % 4 := Nat.and_two_pow_sub_one_eq_mod d.toNat 2
  have hop : (op.setWidth 32).toNat = op.toNat := BitVec.toNat_setWidth_of_le (by decide)
  rw [word_opCode_eq_iff, ← BitVec.toNat_inj, BitVec.toNat_and, hop, ← hlow]
  rfl

/-- R97: a row of `ALM_CMD` takes the words with its op-code. -/
theorem and_cmdMask_eq_iff {t : OpWord} {op : BitVec 2} :
    t &&& 0x1FFF00000003#45 = packOp true 0x048#12 (op.setWidth 32)
      ↔ opRw t = true ∧ opAddr t = 0x048#12 ∧ (opData t).extractLsb' 0 2 = op := by
  have hmask : 0x1FFF00000003#45 = packOp true 0xFFF#12 3#32 := by decide
  rw [hmask, and_packOp_eq_packOp_iff, addr_and_fullMask, Bool.and_true, word_and_three_eq_iff]

/-- Two addresses agree when they agree above the index, in the index and in the register number. -/
theorem addr_eq_iff_fields {a a' : Addr} {top : Nat} (n m : Nat) (hn : 5 + n = top) (hm : top + m = 12) :
    a = a' ↔ a.extractLsb' top m = a'.extractLsb' top m ∧ a.extractLsb' 5 n = a'.extractLsb' 5 n
      ∧ a.extractLsb' 0 5 = a'.extractLsb' 0 5 := by
  refine ⟨fun h => by subst h; exact ⟨rfl, rfl, rfl⟩, fun ⟨hblock, hindex, hregister⟩ => ?_⟩
  have hfield {start len i : Nat} (heq : a.extractLsb' start len = a'.extractLsb' start len)
      (hstart : start ≤ i) (hlen : i < start + len) : a.getLsbD i = a'.getLsbD i := by
    have hbit := congrArg (BitVec.getLsbD · (i - start)) heq
    simpa [(by omega : i - start < len), Nat.add_sub_cancel' hstart] using hbit
  refine BitVec.eq_of_getLsbD_eq fun i hi => ?_
  by_cases hlow : i < 5
  · exact hfield hregister (by omega) (by omega)
  by_cases hmid : i < top
  · exact hfield hindex (by omega) (by omega)
  · exact hfield hblock (by omega) (by omega)

theorem channelBlock_iff {a : Addr} : (0x100 ≤ a.toNat ∧ a.toNat ≤ 0x1FF) ↔ a.extractLsb' 8 4 = 1#4 := by
  rw [← BitVec.toNat_inj, BitVec.extractLsb'_toNat, Nat.shiftRight_eq_div_pow]
  have := a.isLt
  simp only [BitVec.toNat_ofNat]
  omega

theorem buttonBlock_iff {a : Addr} : (0x400 ≤ a.toNat ∧ a.toNat ≤ 0x7FF) ↔ a.extractLsb' 10 2 = 1#2 := by
  rw [← BitVec.toNat_inj, BitVec.extractLsb'_toNat, Nat.shiftRight_eq_div_pow]
  have := a.isLt
  simp only [BitVec.toNat_ofNat]
  omega

theorem channelOffset_block (j : BitVec 3) (off : BitVec 5) : (channelOffset j off).extractLsb' 8 4 = 1#4 :=
  channelBlock_iff.mp (by rw [channelOffset_toNat]; omega)

theorem buttonOffset_block (b : BitVec 5) (off : BitVec 5) : (buttonOffset b off).extractLsb' 10 2 = 1#2 :=
  buttonBlock_iff.mp (by rw [buttonOffset_toNat]; omega)

/-- The mask of a channel row clears the index. -/
theorem and_channelMask_eq_iff {a : Addr} {off : BitVec 5} :
    a &&& 0xF1F#12 = channelOffset 0#3 off ↔ (0x100 ≤ a.toNat ∧ a.toNat ≤ 0x1FF) ∧ a.extractLsb' 0 5 = off := by
  have hblock : (0xF1F#12).extractLsb' 8 4 = BitVec.allOnes 4 := by decide
  have hindex : (0xF1F#12).extractLsb' 5 3 = 0#3 := by decide
  have hregister : (0xF1F#12).extractLsb' 0 5 = BitVec.allOnes 5 := by decide
  rw [addr_eq_iff_fields (top := 8) 3 4 rfl rfl, channelBlock_iff]
  simp only [BitVec.extractLsb'_and, hblock, hindex, hregister, BitVec.and_allOnes, BitVec.and_zero, channelOffset_block,
    channelOffset_index, channelOffset_register, true_and]

/-- The mask of a button row clears the index. -/
theorem and_buttonMask_eq_iff {a : Addr} {off : BitVec 5} :
    a &&& 0xC1F#12 = buttonOffset 0#5 off ↔ (0x400 ≤ a.toNat ∧ a.toNat ≤ 0x7FF) ∧ a.extractLsb' 0 5 = off := by
  have hblock : (0xC1F#12).extractLsb' 10 2 = BitVec.allOnes 2 := by decide
  have hindex : (0xC1F#12).extractLsb' 5 5 = 0#5 := by decide
  have hregister : (0xC1F#12).extractLsb' 0 5 = BitVec.allOnes 5 := by decide
  rw [addr_eq_iff_fields (top := 10) 5 2 rfl rfl, buttonBlock_iff]
  simp only [BitVec.extractLsb'_and, hblock, hindex, hregister, BitVec.and_allOnes, BitVec.and_zero, buttonOffset_block,
    buttonOffset_index, buttonOffset_register, true_and]

/-- R89: a row of the channel blocks takes the reads of its register, at every index. -/
theorem and_channelRowMask_eq_iff {t : OpWord} {off : BitVec 5} :
    t &&& 0x1F1F00000000#45 = packOp false (channelOffset 0#3 off) 0#32
      ↔ opRw t = false ∧ (0x100 ≤ (opAddr t).toNat ∧ (opAddr t).toNat ≤ 0x1FF) ∧ (opAddr t).extractLsb' 0 5 = off := by
  have hmask : 0x1F1F00000000#45 = packOp true 0xF1F#12 0#32 := by decide
  rw [hmask, and_packOp_eq_packOp_iff, and_channelMask_eq_iff, Bool.and_true]
  simp

/-- R89: a row of the button blocks takes the reads of its register, at every index. -/
theorem and_buttonRowMask_eq_iff {t : OpWord} {off : BitVec 5} :
    t &&& 0x1C1F00000000#45 = packOp false (buttonOffset 0#5 off) 0#32
      ↔ opRw t = false ∧ (0x400 ≤ (opAddr t).toNat ∧ (opAddr t).toNat ≤ 0x7FF) ∧ (opAddr t).extractLsb' 0 5 = off := by
  have hmask : 0x1C1F00000000#45 = packOp true 0xC1F#12 0#32 := by decide
  rw [hmask, and_packOp_eq_packOp_iff, and_buttonMask_eq_iff, Bool.and_true]
  simp

/-! ## The named rows and the decoder's tables -/

/-- R90: every named row is that of a fixed register, of a register of a block, or of a command. -/
theorem namedRows_cases : ∀ r ∈ namedRows,
    r ∈ (readableFixed.map fun a => (0x1FFF00000000#45, packOp false a 0#32))
      ∨ r ∈ (readableInChannel.map fun off => (0x1F1F00000000#45, packOp false (channelOffset 0#3 off) 0#32))
      ∨ r ∈ (readableInButton.map fun off => (0x1C1F00000000#45, packOp false (buttonOffset 0#5 off) 0#32))
      ∨ r ∈ (writableFixed.map fun a => (0x1FFF00000000#45, packOp true a 0#32))
      ∨ ∃ op : BitVec 2, r = (0x1FFF00000003#45, packOp true 0x048#12 (op.setWidth 32)) := by
  unfold namedRows
  repeat refine List.forall_mem_cons.mpr ⟨by decide, ?_⟩
  exact List.forall_mem_nil _

theorem namedRead_eq_true {a : Addr} :
    namedRead a = true ↔ a ∈ readableFixed
      ∨ ((0x100 ≤ a.toNat ∧ a.toNat ≤ 0x1FF) ∧ a.extractLsb' 0 5 ∈ readableInChannel)
      ∨ ((0x400 ≤ a.toNat ∧ a.toNat ≤ 0x7FF) ∧ a.extractLsb' 0 5 ∈ readableInButton) := by
  simp [namedRead, or_assoc]

theorem namedWrite_eq_true {a : Addr} : namedWrite a = true ↔ a ∈ writableFixed := by
  simp [namedWrite]

/-- A word that a named row takes accesses an address that the map lists for its direction. -/
theorem named_of_namedRow {t : OpWord} {r : OpWord × OpWord} (hr : r ∈ namedRows) (htake : t &&& r.1 = r.2) :
    if opRw t then namedWrite (opAddr t) = true else namedRead (opAddr t) = true := by
  rcases namedRows_cases r hr with hrow | hrow | hrow | hrow | ⟨op, rfl⟩
  · obtain ⟨a, ha, rfl⟩ := List.mem_map.mp hrow
    obtain ⟨hrw, rfl⟩ := and_addrMask_eq_iff.mp htake
    simpa [hrw] using namedRead_eq_true.mpr (.inl ha)
  · obtain ⟨off, hoff, rfl⟩ := List.mem_map.mp hrow
    obtain ⟨hrw, hblock, rfl⟩ := and_channelRowMask_eq_iff.mp htake
    simpa [hrw] using namedRead_eq_true.mpr (.inr (.inl ⟨hblock, hoff⟩))
  · obtain ⟨off, hoff, rfl⟩ := List.mem_map.mp hrow
    obtain ⟨hrw, hblock, rfl⟩ := and_buttonRowMask_eq_iff.mp htake
    simpa [hrw] using namedRead_eq_true.mpr (.inr (.inr ⟨hblock, hoff⟩))
  · obtain ⟨a, ha, rfl⟩ := List.mem_map.mp hrow
    obtain ⟨hrw, rfl⟩ := and_addrMask_eq_iff.mp htake
    simpa [hrw] using namedWrite_eq_true.mpr ha
  · obtain ⟨hrw, haddr, -⟩ := and_cmdMask_eq_iff.mp htake
    simpa [hrw, haddr] using namedWrite_eq_true.mpr (by decide)

/-- Only the catch-all rows have terms that are no operations. -/
theorem wellFormed_of_namedRow {i : Instr} (h : opcodeRow i ∈ namedRows) : i.wellFormed = true := by
  cases i with
  | rdUnmapped a => exact absurd h (by decide : (0x100000000000#45, 0x000000000000#45) ∉ namedRows)
  | wrUnmapped a => exact absurd h (by decide : (0x100000000000#45, 0x100000000000#45) ∉ namedRows)
  | _ => rfl

/-! ## The row of the operation that a word decodes to -/

/-- The row of the operation is a named one and takes the word. -/
def NamedRowTakes (i : Instr) (t : OpWord) : Prop :=
  opcodeRow i ∈ namedRows ∧ t &&& (opcodeRow i).1 = (opcodeRow i).2

theorem opcodeRow_of_mem_fixedReads : ∀ p ∈ fixedReads,
    opcodeRow p.2 ∈ namedRows ∧ opcodeRow p.2 = (0x1FFF00000000#45, packOp false p.1 0#32) := by
  decide

theorem opcodeRow_of_mem_channelReads : ∀ j : BitVec 3, ∀ p ∈ channelReads j,
    opcodeRow p.2 ∈ namedRows ∧ opcodeRow p.2 = (0x1F1F00000000#45, packOp false (channelOffset 0#3 p.1) 0#32) := by
  decide

theorem opcodeRow_of_mem_buttonReads : ∀ b : BitVec 5, ∀ p ∈ buttonReads b,
    opcodeRow p.2 ∈ namedRows ∧ opcodeRow p.2 = (0x1C1F00000000#45, packOp false (buttonOffset 0#5 p.1) 0#32) := by
  decide

/-- A key of a table is found in it, at an entry of the table. -/
theorem lookup_eq_some_of_mem {α β : Type} [BEq α] [LawfulBEq α] {l : List (α × β)} {k : α} (h : k ∈ l.map Prod.fst) :
    ∃ v, l.lookup k = some v ∧ (k, v) ∈ l := by
  obtain ⟨⟨k', v'⟩, hmem, rfl⟩ := List.mem_map.mp h
  cases hlookup : l.lookup k' with
  | none => simpa using List.lookup_eq_none_iff.mp hlookup _ hmem
  | some v =>
    obtain ⟨l₁, l₂, rfl, -⟩ := List.lookup_eq_some_iff.mp hlookup
    exact ⟨v, rfl, by simp⟩

/-- A read of an address that the map lists lies in the named row of its register. -/
theorem namedRowTakes_decodeRead {t : OpWord} (hrw : opRw t = false) (hnamed : namedRead (opAddr t) = true) :
    NamedRowTakes (decodeRead (opAddr t)) t := by
  rcases namedRead_eq_true.mp hnamed with hkey | ⟨hblock, hkey⟩ | ⟨hblock, hkey⟩
  · obtain ⟨i, hlookup, hmem⟩ := lookup_eq_some_of_mem (l := fixedReads) hkey
    obtain ⟨hrow, heq⟩ := opcodeRow_of_mem_fixedReads _ hmem
    have hdecode : decodeRead (opAddr t) = i := by rw [decodeRead, hlookup]
    rw [hdecode]
    exact ⟨hrow, heq ▸ and_addrMask_eq_iff.mpr ⟨hrw, rfl⟩⟩
  · obtain ⟨i, hlookup, hmem⟩ := lookup_eq_some_of_mem (l := channelReads ((opAddr t).extractLsb' 5 3)) hkey
    obtain ⟨hrow, heq⟩ := opcodeRow_of_mem_channelReads _ _ hmem
    rw [decodeRead_of_channelBlock hblock, hlookup]
    exact ⟨hrow, heq ▸ and_channelRowMask_eq_iff.mpr ⟨hrw, hblock, rfl⟩⟩
  · obtain ⟨i, hlookup, hmem⟩ := lookup_eq_some_of_mem (l := buttonReads ((opAddr t).extractLsb' 5 5)) hkey
    obtain ⟨hrow, heq⟩ := opcodeRow_of_mem_buttonReads _ _ hmem
    rw [decodeRead_of_buttonBlock hblock, hlookup]
    exact ⟨hrow, heq ▸ and_buttonRowMask_eq_iff.mpr ⟨hrw, hblock, rfl⟩⟩

/-- A write operation whose row is that of the address lies in it, whatever its data word. -/
theorem namedRowTakes_of_addrRow {a : Addr} {i : Instr} (d : Word)
    (heq : opcodeRow i = (0x1FFF00000000#45, packOp true a 0#32))
    (hrow : (0x1FFF00000000#45, packOp true a 0#32) ∈ namedRows) : NamedRowTakes i (packOp true a d) := by
  rw [NamedRowTakes, heq]
  exact ⟨hrow, packOp_and_addrMask true a d⟩

/-- R97: a write to `ALM_CMD` lies in the row of its op-code. -/
theorem namedRowTakes_decodeAlmCmd (d : Word) : NamedRowTakes (decodeAlmCmd d) (packOp true 0x048#12 d) := by
  have hrows : ∀ op : BitVec 2, (0x1FFF00000003#45, packOp true 0x048#12 (op.setWidth 32)) ∈ namedRows := by decide
  have hop : ∀ op : BitVec 2, op = 0#2 ∨ op = 1#2 ∨ op = 2#2 ∨ op = 3#2 := by decide
  have heq : opcodeRow (decodeAlmCmd d)
      = (0x1FFF00000003#45, packOp true 0x048#12 ((d.extractLsb' 0 2).setWidth 32)) := by
    unfold decodeAlmCmd
    rcases hop (d.extractLsb' 0 2) with h | h | h | h <;> rw [h] <;> rfl
  rw [NamedRowTakes, heq]
  exact ⟨hrows _, and_cmdMask_eq_iff.mpr (by simp)⟩

/-- A write that the table lists lies in the named row of its register. -/
theorem namedRowTakes_of_mem_fixedWrites (d : Word) : ∀ p ∈ fixedWrites d, NamedRowTakes p.2 (packOp true p.1 d) := by
  simp only [fixedWrites, List.forall_mem_cons]
  refine ⟨?_, ?_, ?_, ?_, ?_, ?_, namedRowTakes_decodeAlmCmd d, ?_, ?_, ?_, ?_, ?_, ?_, List.forall_mem_nil _⟩ <;>
    exact namedRowTakes_of_addrRow d rfl (by decide)

theorem namedRowTakes_decodeWrite {t : OpWord} (hrw : opRw t = true) (hnamed : namedWrite (opAddr t) = true) :
    NamedRowTakes (decodeWrite (opAddr t) (opData t)) t := by
  obtain ⟨i, hlookup, hmem⟩ := lookup_eq_some_of_mem (l := fixedWrites (opData t)) (namedWrite_eq_true.mp hnamed)
  have htakes := namedRowTakes_of_mem_fixedWrites (opData t) _ hmem
  have hdecode : decodeWrite (opAddr t) (opData t) = i := by rw [decodeWrite, hlookup, Option.getD_some]
  rw [← hrw, packOp_fields] at htakes
  rwa [hdecode]

/-! ## Totality and disjointness -/

theorem wordAligned_iff {a : Addr} : wordAligned a = true ↔ a.toNat % 4 = 0 :=
  ⟨fun h => by simpa using congrArg BitVec.toNat (beq_iff_eq.mp h), wordAligned_of_toNat_mod⟩

/-- A decoded word has an aligned address, and decodes by its direction. -/
theorem decode_eq_ok_iff {t : OpWord} {i : Instr} :
    decode t = .ok i ↔ wordAligned (opAddr t) = true
      ∧ (if opRw t then decodeWrite (opAddr t) (opData t) else decodeRead (opAddr t)) = i := by
  by_cases h : wordAligned (opAddr t) = true <;> simp [decode, h]

/-- The mask of the catch-all rows keeps the direction alone. -/
theorem and_rwMask (t : OpWord) : t &&& 0x100000000000#45 = packOp (opRw t) 0#12 0#32 := by
  have hmask : 0x100000000000#45 = packOp true 0#12 0#32 := by decide
  rw [hmask, and_packOp_eq_packOp_iff]
  simp

/-- R86: the word lies in the row of the operation, which is well formed, and no named row takes the word of a catch-all row. -/
def FollowsTable (t : OpWord) (i : Instr) : Prop :=
  t &&& (opcodeRow i).1 = (opcodeRow i).2 ∧ i.wellFormed = true
    ∧ (opcodeRow i ∈ namedRows ∨ ∀ r ∈ namedRows, t &&& r.1 ≠ r.2)

theorem NamedRowTakes.followsTable {i : Instr} {t : OpWord} (h : NamedRowTakes i t) : FollowsTable t i :=
  ⟨h.2, wellFormed_of_namedRow h.1, .inl h.1⟩

theorem followsTable_decodeRead {t : OpWord} (halign : wordAligned (opAddr t) = true) (hrw : opRw t = false) :
    FollowsTable t (decodeRead (opAddr t)) := by
  cases hnamed : namedRead (opAddr t) with
  | true => exact (namedRowTakes_decodeRead hrw hnamed).followsTable
  | false =>
    rw [decodeRead_of_not_namedRead hnamed]
    refine ⟨?_, by simp [Instr.wellFormed, halign, hnamed], .inr fun r hr htake => ?_⟩
    · rw [opcodeRow, and_rwMask, hrw]; decide
    · simpa [hrw, hnamed] using named_of_namedRow hr htake

theorem followsTable_decodeWrite {t : OpWord} (halign : wordAligned (opAddr t) = true) (hrw : opRw t = true) :
    FollowsTable t (decodeWrite (opAddr t) (opData t)) := by
  cases hnamed : namedWrite (opAddr t) with
  | true => exact (namedRowTakes_decodeWrite hrw hnamed).followsTable
  | false =>
    rw [decodeWrite_of_not_namedWrite hnamed]
    refine ⟨?_, by simp [Instr.wellFormed, halign, hnamed], .inr fun r hr htake => ?_⟩
    · rw [opcodeRow, and_rwMask, hrw]; decide
    · simpa [hrw, hnamed] using named_of_namedRow hr htake

theorem followsTable_of_decode {t : OpWord} {i : Instr} (h : decode t = .ok i) : FollowsTable t i := by
  obtain ⟨halign, rfl⟩ := decode_eq_ok_iff.mp h
  cases hrw : opRw t with
  | false => exact followsTable_decodeRead halign hrw
  | true => exact followsTable_decodeWrite halign hrw

/-- Where no two entries of a list pass a test together, at most one passes it. -/
theorem countP_le_one_of_pairwise {α : Type} {p : α → Bool} {l : List α}
    (h : l.Pairwise fun x y => ¬ (p x = true ∧ p y = true)) : l.countP p ≤ 1 := by
  induction h with
  | nil => exact Nat.zero_le _
  | @cons x l hx _ ih =>
    by_cases hpx : p x = true
    · have hrest : l.countP p = 0 := List.countP_eq_zero.mpr fun y hy hpy => hx y hy ⟨hpx, hpy⟩
      rw [List.countP_cons_of_pos hpx, hrest]
    · rwa [List.countP_cons_of_neg hpx]

/-- Two named rows differ at a bit that both masks keep. -/
theorem namedRows_pairwise_differ : namedRows.Pairwise fun r r' => r.2 &&& r'.1 ≠ r'.2 &&& r.1 := by
  decide

/-- R86: no word lies in two named rows. -/
theorem namedRows_countP_le_one (t : OpWord) : (namedRows.countP fun r => t &&& r.1 == r.2) ≤ 1 := by
  refine countP_le_one_of_pairwise (namedRows_pairwise_differ.imp fun {r r'} hdiffer htakes => hdiffer ?_)
  obtain ⟨hr, hr'⟩ : t &&& r.1 = r.2 ∧ t &&& r'.1 = r'.2 := by simpa using htakes
  rw [← hr, ← hr', BitVec.and_assoc, BitVec.and_assoc, BitVec.and_comm r.1]

/-- Settles O57, by the tables of the decoder for the row of a word, and pairwise for the rows. -/
theorem decodeFollowsTheOpcodeTable : Obligations.DecodeFollowsTheOpcodeTable := by
  refine ⟨fun t => ?_, fun t i h => followsTable_of_decode h, namedRows_countP_le_one⟩
  simp only [decode_eq_ok_iff, exists_and_left, exists_eq', and_true, wordAligned_iff]

end Sys2Proof
end

section
/-! The window primitives bit by bit, and the low-run tests (40_debounce_shift_register.md R121 to R124, R128). -/

namespace Sys2Proof.Machine

variable {w : Wide} {hs n : Nat}

theorem push_getLsbD (hhs : hs ≤ 64) (w : Wide) (b : Bool) (i : Nat) :
    (push w hs b).getLsbD i = (decide (i < hs) && if i = 0 then b else w.getLsbD (i - 1)) := by
  by_cases hi : i < hs
  · have hi64 : i < 64 := by omega
    cases i <;> simp [-BitVec.getLsbD_eq_getElem, push, hi, hi64]
  · simp [-BitVec.getLsbD_eq_getElem, push, hi]

theorem test_of_lt {i : Nat} (hi : i < hs) : test w hs i = w.getLsbD i := by simp [test, hi]

theorem test_of_ge {i : Nat} (hi : hs ≤ i) : test w hs i = false := by simp [test, Nat.not_lt.mpr hi]

theorem setBit_getLsbD_of_lt (hhs : hs ≤ 64) {i : Nat} (hi : i < hs) (w : Wide) (b : Bool) (j : Nat) :
    (setBit w hs i b).getLsbD j = (decide (j < hs) && if j = i then b else w.getLsbD j) := by
  rw [setBit, if_pos hi]
  by_cases hj : j < hs
  · have hj64 : j < 64 := by omega
    rcases Nat.lt_trichotomy j i with hji | rfl | hij
    · simp [-BitVec.getLsbD_eq_getElem, hj, hj64, hji, hji.ne]
    · simp [-BitVec.getLsbD_eq_getElem, hj, hj64]
    · simp [-BitVec.getLsbD_eq_getElem, hj, hj64, hij.ne', Nat.not_lt.mpr hij.le, Nat.sub_ne_zero_of_lt hij]
  · simp [-BitVec.getLsbD_eq_getElem, hj]

theorem setBit_of_ge {i : Nat} (hi : hs ≤ i) (w : Wide) (b : Bool) : setBit w hs i b = w := if_neg (Nat.not_lt.mpr hi)

theorem fill_getLsbD (hhs : hs ≤ 64) (j : Nat) : (fill hs).getLsbD j = decide (j < hs) := by
  by_cases hj : j < hs
  · simp [-BitVec.getLsbD_eq_getElem, fill, hj, (by omega : j < 64)]
  · simp [-BitVec.getLsbD_eq_getElem, fill, hj]

/-- Settles O1, one bit lemma for each of Push, Test, Set and Fill. -/
theorem windowBits : Obligations.WindowBits := fun w _ i j b hhs =>
  ⟨push_getLsbD hhs w b i, test_of_lt, test_of_ge, fun hi => setBit_getLsbD_of_lt hhs hi w b j,
    fun hi => setBit_of_ge hi w b, fill_getLsbD hhs j⟩

theorem lowAllOnes_iff (hhs : hs ≤ 64) : lowAllOnes w hs n = true ↔ n ≤ hs ∧ ∀ i, i < n → w.getLsbD i = true := by
  rw [lowAllOnes, Bool.and_eq_true, decide_eq_true_iff, beq_iff_eq]
  exact and_congr_right fun hn => and_ones_eq_ones (hn.trans hhs)

theorem lowAllZeros_iff (hhs : hs ≤ 64) : lowAllZeros w hs n = true ↔ ∀ i, i < n → i < hs → w.getLsbD i = false := by
  rw [lowAllZeros, beq_iff_eq, and_ones_eq_zero ((Nat.min_le_right n hs).trans hhs)]
  simp only [Nat.lt_min, and_imp]

/-- In a window that lies inside its width, the bits outside it read 0 anyway. -/
theorem lowAllZeros_iff_of_lt_two_pow (hhs : hs ≤ 64) (hw : w.toNat < 2 ^ hs) :
    lowAllZeros w hs n = true ↔ ∀ i, i < n → w.getLsbD i = false := by
  rw [lowAllZeros_iff hhs]
  refine forall₂_congr fun i _ => ⟨fun h => ?_, fun h _ => h⟩
  by_cases hi : i < hs
  · exact h hi
  · exact lt_two_pow_iff.mp hw i (Nat.not_lt.mp hi)

theorem lowAllOnes_of_hs_lt (hn : hs < n) : lowAllOnes w hs n = false := by simp [lowAllOnes, Nat.not_le.mpr hn]

theorem lowAllZeros_of_hs_lt (hw : w.toNat < 2 ^ hs) (hn : hs < n) :
    lowAllZeros w hs n = true ↔ w = 0#64 := by
  have hall : w &&& ones hs = w := BitVec.eq_of_getLsbD_eq fun i hi => by
    by_cases hin : i < hs
    · simp [-BitVec.getLsbD_eq_getElem, hin, hi]
    · simp [-BitVec.getLsbD_eq_getElem, hin, lt_two_pow_iff.mp hw i (Nat.not_lt.mp hin)]
  rw [lowAllZeros, Nat.min_eq_right hn.le, hall, beq_iff_eq]

/-- Settles O4, by the two tests bit by bit; over more bits than the window has, the test for zeros sees the whole window. -/
theorem lowRunTests : Obligations.LowRunTests := fun _ _ _ hhs hw =>
  ⟨lowAllOnes_iff hhs, lowAllZeros_iff_of_lt_two_pow hhs hw, fun hn => ⟨lowAllOnes_of_hs_lt hn, lowAllZeros_of_hs_lt hw hn⟩,
    (lowAllOnes_iff hhs).mpr (by simp), (lowAllZeros_iff hhs).mpr (by simp)⟩

end Sys2Proof.Machine
end

section
/-! The trailing runs are characterised by what they are at least (40_debounce_shift_register.md R125, R126). -/

namespace Sys2Proof.Machine

/-- A run has at least `n` bits exactly when the first `n` bits all equal `b`. -/
theorem le_runFrom_iff {b : Bool} {w : Wide} {m n i : Nat} (hn : n ≤ m) :
    n ≤ runFrom b w m i ↔ ∀ k, k < n → w.getLsbD (i + k) = b := by
  constructor
  · exact fun h k hk => runFrom_bits b w m i k (hk.trans_le h)
  · intro hbits
    by_contra hlt
    have hshort : runFrom b w m i < n := Nat.not_le.mp hlt
    exact runFrom_stop b w m i (hshort.trans_le hn) (hbits _ hshort)

theorem runFrom_eq_zero {b : Bool} {w : Wide} {i : Nat} (h : w.getLsbD i ≠ b) (m : Nat) : runFrom b w m i = 0 := by
  cases m with
  | zero => rfl
  | succ m => exact if_neg h

variable {w : Wide} {hs n : Nat}

theorem trailingOnes_le (w : Wide) (hs : Nat) : trailingOnes w hs ≤ hs := runFrom_le true w hs 0

theorem trailingZeros_le (w : Wide) (hs : Nat) : trailingZeros w hs ≤ hs := runFrom_le false w hs 0

theorem le_trailingOnes_iff (hhs : hs ≤ 64) (hn : n ≤ hs) : n ≤ trailingOnes w hs ↔ w &&& ones n = ones n := by
  rw [trailingOnes, le_runFrom_iff hn, and_ones_eq_ones (hn.trans hhs)]
  simp only [Nat.zero_add]

theorem le_trailingZeros_iff (hhs : hs ≤ 64) (hn : n ≤ hs) : n ≤ trailingZeros w hs ↔ w &&& ones n = 0#64 := by
  rw [trailingZeros, le_runFrom_iff hn, and_ones_eq_zero (hn.trans hhs)]
  simp only [Nat.zero_add]

theorem trailingOnes_eq_zero (h : w.getLsbD 0 = false) (hs : Nat) : trailingOnes w hs = 0 :=
  runFrom_eq_zero (ne_of_eq_of_ne h Bool.false_ne_true) hs

theorem trailingZeros_eq_zero (h : w.getLsbD 0 = true) (hs : Nat) : trailingZeros w hs = 0 :=
  runFrom_eq_zero (ne_of_eq_of_ne h Bool.false_ne_true.symm) hs

theorem trailingOnes_ones (hhs : hs ≤ 64) : trailingOnes (ones hs) hs = hs :=
  (trailingOnes_le _ hs).antisymm ((le_trailingOnes_iff hhs le_rfl).mpr BitVec.and_self)

theorem trailingZeros_zero (hhs : hs ≤ 64) : trailingZeros 0#64 hs = hs :=
  (trailingZeros_le _ hs).antisymm ((le_trailingZeros_iff hhs le_rfl).mpr BitVec.zero_and)

/-- Settles O2: both runs are maximal by what they are at least, and bit 0 decides which of them is 0. -/
theorem trailingRunsAreTheLargest : Obligations.TrailingRunsAreTheLargest := by
  intro w hs hhs
  have hones := trailingOnes_le w hs
  have hzeros := trailingZeros_le w hs
  refine ⟨⟨hones, (le_trailingOnes_iff hhs hones).mp le_rfl, fun n hn => (le_trailingOnes_iff hhs hn).mpr,
      trailingOnes_eq_zero BitVec.getLsbD_zero hs, trailingOnes_ones hhs⟩,
    ⟨hzeros, (le_trailingZeros_iff hhs hzeros).mp le_rfl, fun n hn => (le_trailingZeros_iff hhs hn).mpr,
      trailingZeros_zero hhs, fun h => trailingZeros_eq_zero h hs⟩, ?_⟩
  cases h : w.getLsbD 0 with
  | false => exact .inl (trailingOnes_eq_zero h hs)
  | true => exact .inr (trailingZeros_eq_zero h hs)

end Sys2Proof.Machine
end

section
/-! Rising edges as a count over index pairs (40_debounce_shift_register.md R127). -/

namespace Sys2Proof.Machine

/-- Counting up to `m` what lies below `n` is counting up to `n`. -/
theorem countP_range_and_lt (p : Nat → Bool) {n m : Nat} (h : n ≤ m) :
    ((List.range m).countP fun i => p i && decide (i < n)) = (List.range n).countP p := by
  induction m, h using Nat.le_induction with
  | base => exact List.countP_congr fun i hi => by simp [List.mem_range.mp hi]
  | succ m hnm ih => simp [List.range_succ, ih, Nat.not_lt.mpr hnm]

/-- A predicate that never holds of two neighbours holds of at most every other index. -/
theorem countP_range_le_half {p : Nat → Bool} (h : ∀ i, p i = true → p (i + 1) = false) :
    ∀ n, (List.range n).countP p ≤ (n + 1) / 2
  | 0 => Nat.zero_le _
  | 1 => List.countP_le_length
  | n + 2 => by
    have ih := countP_range_le_half h n
    have hpair : [n, n + 1].countP p ≤ 1 := by
      cases hn : p n with
      | false => simpa [hn] using List.countP_le_length (p := p) (l := [n + 1])
      | true => simp [hn, h n hn]
    have hsplit : List.range (n + 2) = List.range n ++ [n, n + 1] := by simp [List.range_succ]
    rw [hsplit, List.countP_append]
    omega

/-- Bit `i` is 1 and the older bit `i + 1` is 0. -/
def risingAt (w : Wide) (i : Nat) : Bool := w.getLsbD i && !w.getLsbD (i + 1)

variable {w : Wide} {hs : Nat}

theorem risingEdgeCount_false (hhs : hs ≤ 64) : risingEdgeCount w hs false = (List.range (hs - 1)).countP (risingAt w) := by
  have hbits : ∀ i ∈ List.range 64,
      (w &&& ~~~(w >>> 1) &&& ones (hs - 1)).getLsbD i = (risingAt w i && decide (i < hs - 1)) := fun i hi => by
    simp [-BitVec.getLsbD_eq_getElem, risingAt, List.mem_range.mp hi, Nat.add_comm 1 i]
  calc risingEdgeCount w hs false
      = (List.range 64).countP (fun i => risingAt w i && decide (i < hs - 1)) :=
        List.countP_congr fun i hi => by rw [hbits i hi]
    _ = (List.range (hs - 1)).countP (risingAt w) := countP_range_and_lt _ (by omega)

theorem risingEdgeCount_true (w : Wide) (hs : Nat) : risingEdgeCount w hs true = min (risingEdgeCount w hs false) 1 := rfl

/-- An edge needs a 1 and a 0, so two edges never share an index. -/
theorem risingEdgeCount_le_half (hpos : 1 ≤ hs) (hhs : hs ≤ 64) : risingEdgeCount w hs false ≤ hs / 2 := by
  have halternate : ∀ i, risingAt w i = true → risingAt w (i + 1) = false := fun i hi => by
    obtain ⟨-, hnext⟩ : w.getLsbD i = true ∧ w.getLsbD (i + 1) = false := by
      simpa [-BitVec.getLsbD_eq_getElem, risingAt] using hi
    simp [risingAt, hnext]
  have hbound := countP_range_le_half halternate (hs - 1)
  rwa [← risingEdgeCount_false hhs, Nat.sub_add_cancel hpos] at hbound

/-- A window in which every 1 is followed by an older 1 up to the oldest bit has no edge. -/
theorem risingEdgeCount_eq_zero (hhs : hs ≤ 64)
    (h : ∀ i, i + 1 < hs → w.getLsbD i = true → w.getLsbD (i + 1) = true) (single : Bool) :
    risingEdgeCount w hs single = 0 := by
  have hcount : risingEdgeCount w hs false = 0 := by
    rw [risingEdgeCount_false hhs, List.countP_eq_zero]
    intro i hi
    have hin : i + 1 < hs := by have := List.mem_range.mp hi; omega
    simpa [-BitVec.getLsbD_eq_getElem, risingAt] using h i hin
  cases single with
  | false => exact hcount
  | true => rw [risingEdgeCount_true, hcount]; rfl

theorem ones_shiftLeft_getLsbD (hhs : hs ≤ 64) (k i : Nat) :
    ((ones hs <<< k) &&& ones hs).getLsbD i = (decide (k ≤ i) && decide (i < hs)) := by
  by_cases hi : i < hs
  · by_cases hk : k ≤ i
    · simp [-BitVec.getLsbD_eq_getElem, hi, hk, (by omega : i < 64), Nat.not_lt.mpr hk, (by omega : i - k < hs),
        (by omega : i - k < 64)]
    · simp [-BitVec.getLsbD_eq_getElem, hk, Nat.not_le.mp hk]
  · simp [-BitVec.getLsbD_eq_getElem, hi]

/-- Settles O3: the mask of the model counts the pairs inside the window, and none of the corner cases has one. -/
theorem risingEdgesAreCountedPairs : Obligations.RisingEdgesAreCountedPairs := by
  intro w hs hmin hhs
  refine ⟨risingEdgeCount_false hhs, risingEdgeCount_true w hs, risingEdgeCount_le_half (by omega) hhs,
    fun single => ⟨?empty, fun k => ?shifted, ?oldest⟩⟩
  case empty => exact risingEdgeCount_eq_zero hhs (by simp) single
  case shifted =>
    refine risingEdgeCount_eq_zero hhs (fun i hi hbit => ?_) single
    obtain ⟨hk, -⟩ : k ≤ i ∧ i < hs := by simpa [-BitVec.getLsbD_eq_getElem, ones_shiftLeft_getLsbD hhs] using hbit
    simp [-BitVec.getLsbD_eq_getElem, ones_shiftLeft_getLsbD hhs, hi, hk.trans (Nat.le_succ i)]
  case oldest =>
    refine risingEdgeCount_eq_zero hhs (fun i hi hbit => ?_) single
    have hyounger : i < hs - 1 := by omega
    simp [-BitVec.getLsbD_eq_getElem, hyounger] at hbit

end Sys2Proof.Machine
end

section
/-! The host reads of the history windows (40_debounce_shift_register.md R130 to R133). -/

namespace Sys2Proof

theorem buttonOffset_eq_ofNat (b off : BitVec 5) :
    buttonOffset b off = BitVec.ofNat 12 (0x400 + off.toNat + 0x20 * b.toNat) := by
  apply BitVec.eq_of_toNat_eq
  rw [buttonOffset_toNat, BitVec.toNat_ofNat]
  omega

theorem encodeRead_buttonOffset (b off : BitVec 5) :
    encodeRead (buttonOffset b off) = packOp false (BitVec.ofNat 12 (0x400 + off.toNat + 0x20 * b.toNat)) 0#32 := by
  rw [encodeRead, buttonOffset_eq_ofNat]

namespace Machine

theorem loHalf_eq_ofNat (v : Wide) : loHalf v = BitVec.ofNat 32 (v.toNat % 2 ^ 32) := by
  apply BitVec.eq_of_toNat_eq
  simp [loHalf]

theorem hiHalf_eq_ofNat (v : Wide) : hiHalf v = BitVec.ofNat 32 (v.toNat / 2 ^ 32) := by
  apply BitVec.eq_of_toNat_eq
  simp [hiHalf, Nat.shiftRight_eq_div_pow]

theorem exec_rdBtnRawLo (s : State) (b : BitVec 5) :
    exec (.rdBtnRawLo b) s = answer (s.buttonView b.toNat fun x => loHalf x.raw) s := rfl

theorem exec_rdBtnRawHi (s : State) (b : BitVec 5) :
    exec (.rdBtnRawHi b) s = answer (s.buttonView b.toNat fun x => hiHalf x.raw) s := rfl

theorem exec_rdBtnFiltLo (s : State) (b : BitVec 5) :
    exec (.rdBtnFiltLo b) s = answer (s.buttonView b.toNat fun x => loHalf x.filt) s := rfl

theorem exec_rdBtnFiltHi (s : State) (b : BitVec 5) :
    exec (.rdBtnFiltHi b) s = answer (s.buttonView b.toNat fun x => hiHalf x.filt) s := rfl

/-- Settles O11: the address of the register by its offset in the block, its content by the view of the button. -/
theorem readsOfAWindow : Obligations.ReadsOfAWindow := by
  intro s b
  refine ⟨⟨encodeRead_buttonOffset b 0x08#5, encodeRead_buttonOffset b 0x0C#5, encodeRead_buttonOffset b 0x10#5,
    encodeRead_buttonOffset b 0x14#5⟩, fun hge => ?beyond, fun x hlt hx => ?inside⟩
  case beyond =>
    have hzero := exec_buttonReads_of_ge (s := s) hge
    exact ⟨hzero (0x08, .rdBtnRawLo b) (by simp [buttonReads]), hzero (0x0C, .rdBtnRawHi b) (by simp [buttonReads]),
      hzero (0x10, .rdBtnFiltLo b) (by simp [buttonReads]), hzero (0x14, .rdBtnFiltHi b) (by simp [buttonReads])⟩
  case inside =>
    simp only [exec_rdBtnRawLo, exec_rdBtnRawHi, exec_rdBtnFiltLo, exec_rdBtnFiltHi, State.buttonView_of_lt _ hlt hx,
      loHalf_eq_ofNat, hiHalf_eq_ofNat]
    exact ⟨rfl, rfl, rfl, rfl⟩

end Machine
end Sys2Proof
end

section
/-! The staging registers (42_button_event_classifier.md R150 to R153; 44_timer_alarm_scheduler.md R206 to R209). -/

namespace Sys2Proof.Machine

/-- Settles O25: each write stores its operand in its own register, and each read answers that register. -/
theorem stagingRegisters : Obligations.StagingRegisters := fun _ _ =>
  ⟨⟨rfl, rfl⟩, ⟨rfl, rfl⟩, ⟨rfl, rfl⟩, ⟨rfl, rfl⟩, ⟨rfl, rfl⟩, ⟨rfl, rfl⟩, ⟨rfl, rfl⟩, ⟨rfl, rfl⟩⟩

end Sys2Proof.Machine
end

section
/-! Words put together from fields. A field that lies above all that is already in the word adds its value, scaled
(30_encoding.md R102 to R105). -/

namespace Sys2Proof

/-- Adding a field at bit `k`, which ends below bit `n`, to a word that lies below bit `k`. -/
theorem or_shiftLeft_toNat {x y : Word} {k : Nat} (n : Nat) (hx : x.toNat < 2 ^ k) (hy : 2 ^ k * y.toNat < 2 ^ n) (hkn : k ≤ n)
    (hn : n ≤ 32) : (x ||| y <<< k).toNat = x.toNat + 2 ^ k * y.toNat ∧ (x ||| y <<< k).toNat < 2 ^ n := by
  have hshift : (y <<< k).toNat = 2 ^ k * y.toNat := by
    rw [BitVec.toNat_shiftLeft, Nat.shiftLeft_eq, Nat.mul_comm]
    exact Nat.mod_eq_of_lt (hy.trans_le (Nat.pow_le_pow_right (by decide) hn))
  have hsum : (x ||| y <<< k).toNat = x.toNat + 2 ^ k * y.toNat := by
    rw [BitVec.toNat_or, hshift, Nat.or_comm, ← Nat.two_pow_add_eq_or_of_lt hx, Nat.add_comm]
  refine ⟨hsum, ?_⟩
  rw [BitVec.toNat_or, hshift]
  exact Nat.or_lt_two_pow (hx.trans_le (Nat.pow_le_pow_right (by decide) hkn)) hy

/-- A word of four bytes. -/
theorem or_bytes_toNat {w0 w1 w2 w3 : Word} (h0 : w0.toNat < 2 ^ 8) (h1 : w1.toNat < 2 ^ 8) (h2 : w2.toNat < 2 ^ 8)
    (h3 : w3.toNat < 2 ^ 8) : (w0 ||| w1 <<< 8 ||| w2 <<< 16 ||| w3 <<< 24).toNat
      = w0.toNat + 2 ^ 8 * w1.toNat + 2 ^ 16 * w2.toNat + 2 ^ 24 * w3.toNat := by
  obtain ⟨sum1, lt1⟩ := or_shiftLeft_toNat (y := w1) 16 h0 (by omega) (by decide) (by decide)
  obtain ⟨sum2, lt2⟩ := or_shiftLeft_toNat (y := w2) 24 lt1 (by omega) (by decide) (by decide)
  obtain ⟨sum3, -⟩ := or_shiftLeft_toNat (y := w3) 32 lt2 (by omega) (by decide) (by decide)
  rw [sum3, sum2, sum1]

theorem setWidth_word_toNat {n : Nat} (v : BitVec n) (hn : n ≤ 32) : (v.setWidth 32).toNat = v.toNat :=
  (BitVec.toNat_setWidth 32 v).trans (Nat.mod_eq_of_lt (v.isLt.trans_le (Nat.pow_le_pow_right (by decide) hn)))

namespace Machine

theorem bit32_toNat (b : Bool) : (bit32 b).toNat = b.toNat := by cases b <;> rfl

/-- Configuration word A by its fields (30_encoding.md R102). -/
theorem cfgWordA_toNat (c : ButtonCfg) : (cfgWordA c).toNat
    = c.ah.toNat + 2 * c.mc.toNat + 2 ^ 8 * c.hs.toNat + 2 ^ 16 * c.fs.toNat + 2 ^ 24 * c.af.toNat := by
  have hah := bit32_toNat c.ah
  have hmc := bit32_toNat c.mc
  have hah_lt := c.ah.toNat_lt
  have hmc_lt := c.mc.toNat_lt
  have hhs := setWidth_word_toNat c.hs (by decide)
  have hfs := setWidth_word_toNat c.fs (by decide)
  have haf := setWidth_word_toNat c.af (by decide)
  obtain ⟨hflags, hflags_lt⟩ := or_shiftLeft_toNat (x := bit32 c.ah) (y := bit32 c.mc) (k := 1) 8 (by omega) (by omega)
    (by decide) (by decide)
  rw [cfgWordA, or_bytes_toNat hflags_lt (by omega) (by omega) (by omega), hflags, hah, hmc, hhs, hfs, haf, Nat.pow_one]

/-- Configuration word B by its fields (30_encoding.md R103). -/
theorem cfgWordB_toNat (c : ButtonCfg) : (cfgWordB c).toNat
    = c.r.toNat + 2 ^ 8 * c.rs.toNat + 2 ^ 16 * c.l.toNat + 2 ^ 24 * c.ll.toNat := by
  have hr := setWidth_word_toNat c.r (by decide)
  have hrs := setWidth_word_toNat c.rs (by decide)
  have hl := setWidth_word_toNat c.l (by decide)
  have hll := setWidth_word_toNat c.ll (by decide)
  rw [cfgWordB, or_bytes_toNat (by omega) (by omega) (by omega) (by omega), hr, hrs, hl, hll]

theorem eventCode_toNat_le (k : EventType) : (eventCode k).toNat ≤ 5 := by cases k <;> decide

/-- The event word by its fields (30_encoding.md R104). -/
theorem eventWord_toNat {e : Event} (hbutton : e.button < 2 ^ 8) (hclicks : e.clicks < 2 ^ 8) : (eventWord e).toNat
    = (eventCode e.kind).toNat + 2 ^ 8 * e.button + 2 ^ 16 * e.clicks + 2 ^ 24 * e.repeats.toNat := by
  have hkind := eventCode_toNat_le e.kind
  have hb : (BitVec.ofNat 32 e.button).toNat = e.button := Nat.mod_eq_of_lt (by omega)
  have hc : (BitVec.ofNat 32 e.clicks).toNat = e.clicks := Nat.mod_eq_of_lt (by omega)
  have hr := setWidth_word_toNat e.repeats (by decide)
  rw [eventWord, or_bytes_toNat (by omega) (by omega) (by omega) (by omega), hb, hc, hr]

/-- Settles O18: a button index and a click count within their bounds fit their fields, and the code of each type is its number. -/
theorem eventWordFields : Obligations.EventWordFields := by
  intro e hbutton hclicks
  rw [eventWord_toNat (by omega) (by omega)]
  cases e.kind <;> rfl

end Machine
end Sys2Proof
end

section
/-! The clamp of a configuration word pair (42_button_event_classifier.md R154 to R158). -/

namespace Sys2Proof.Machine

variable (a b : Word)

theorem clamp_hs_toNat : (clamp a b).hs.toNat = clampHs a :=
  Nat.mod_eq_of_lt (by have := clampHs_bounds a; omega)

theorem clamp_fs_toNat : (clamp a b).fs.toNat = clampFs a :=
  Nat.mod_eq_of_lt (by have := clampFs_bounds a; omega)

theorem clamp_af_toNat : (clamp a b).af.toNat = clampAf a :=
  Nat.mod_eq_of_lt (by have := clampHs_bounds a; have := clampAf_le a; omega)

/-- A clamped long threshold is below 64, so it fits its field. -/
theorem clampLong_field_toNat (v : BitVec 8) : (BitVec.ofNat 6 (clampLong a v)).toNat = clampLong a v :=
  Nat.mod_eq_of_lt (by have := clampHs_bounds a; have := clampLong_le a v; omega)

/-- A field of a word by arithmetic on the word. -/
theorem field_toNat (w : Word) (start len : Nat) : (w.extractLsb' start len).toNat = w.toNat / 2 ^ start % 2 ^ len := by
  rw [BitVec.extractLsb'_toNat, Nat.shiftRight_eq_div_pow]

/-- The top byte of a word needs no cut. -/
theorem topByte_toNat (w : Word) : (w.extractLsb' 24 8).toNat = w.toNat / 2 ^ 24 := by
  rw [field_toNat]; omega

/-- A bit of a word by arithmetic on the word. -/
theorem bit_eq_decide (w : Word) (i : Nat) : w.getLsbD i = decide (w.toNat / 2 ^ i % 2 = 1) := by
  rw [BitVec.getLsbD, Nat.testBit_eq_decide_div_mod_eq]

theorem clampHs_eq : clampHs a = min (max (a.toNat / 2 ^ 8 % 2 ^ 8) 10) 64 := by rw [clampHs, field_toNat]

theorem clampFs_eq : clampFs a = max (a.toNat / 2 ^ 16 % 2 ^ 8) 1 := by rw [clampFs, field_toNat]

theorem clampAf_eq : clampAf a = if a.toNat / 2 % 2 = 1 then min (a.toNat / 2 ^ 24) (clampHs a) else 0 := by
  rw [clampAf, topByte_toNat, bit_eq_decide, Nat.pow_one]
  simp only [decide_eq_true_eq]

/-- Settles O8: the fields of the words by arithmetic, the clamps of the model on them, and the two zero words by evaluation. -/
theorem clampOfConfigurationWords : Obligations.ClampOfConfigurationWords := by
  refine ⟨fun a b => ?_, by decide, by decide, by decide⟩
  rw [clamp_hs_toNat, clamp_fs_toNat, clamp_af_toNat]
  refine ⟨clampHs_eq a, clampFs_eq a, ?mc, clampAf_eq a, ?ah, ?r, field_toNat b 8 8, ?l, ?ll, clamp_inRange a b⟩
  case mc => exact bit_eq_decide a 1
  case ah => exact (bit_eq_decide a 0).trans (by rw [Nat.pow_zero, Nat.div_one])
  case r => exact (field_toNat b 0 8).trans (by rw [Nat.pow_zero, Nat.div_one])
  case l => rw [← field_toNat]; exact clampLong_field_toNat a _
  case ll => rw [← topByte_toNat]; exact clampLong_field_toNat a _

end Sys2Proof.Machine
end

section
/-! The registers of a button (42_button_event_classifier.md R159, R170 to R172). -/

namespace Sys2Proof

theorem btnCmdData_eq_ofNat (index : BitVec 8) (en : Bool) :
    btnCmdData index en = BitVec.ofNat 32 (index.toNat + 256 * en.toNat) := by
  have hindex := setWidth_word_toNat index (by decide)
  have hen := Machine.bit32_toNat en
  have hen_lt := en.toNat_lt
  obtain ⟨hsum, -⟩ := or_shiftLeft_toNat (x := index.setWidth 32) (y := Machine.bit32 en) (k := 8) 9 (by omega) (by omega)
    (by decide) (by decide)
  apply BitVec.eq_of_toNat_eq
  rw [BitVec.toNat_ofNat, Nat.mod_eq_of_lt (by omega), ← hindex, ← hen]
  exact hsum

namespace Machine

variable {s : State}

theorem exec_wrBtnCmd_of_ge {index : BitVec 8} (h : s.params.nbtn ≤ index.toNat) (en : Bool) :
    exec (.wrBtnCmd index en) s = .next s := if_pos h

theorem exec_wrBtnCmd_of_lt {index : BitVec 8} (h : index.toNat < s.params.nbtn) (en : Bool) :
    exec (.wrBtnCmd index en) s
      = .next (s.modifyButton index.toNat (constructButton s.btnStageA s.btnStageB en)) := if_neg (Nat.not_le.mpr h)

/-- A construction does not depend on what the button was, so it replaces the button (R159). -/
theorem modify_constructButton (xs : List Button) (i : Nat) (a b : Word) (en : Bool) :
    xs.modify i (constructButton a b en) = xs.set i { cfg := clamp a b, en := en, raw := 0#64, filt := 0#64, rep := 0#8 } := by
  apply List.ext_getElem?
  intro j
  rw [List.getElem?_modify, List.getElem?_set']
  split <;> cases xs[j]? <;> rfl

/-- Settles O9: the word by its two fields, the effect by the range of the index. -/
theorem constructionOfAButton : Obligations.ConstructionOfAButton := by
  intro s index en
  refine ⟨congrArg (encodeWrite 0x0A8#12) (btnCmdData_eq_ofNat index en), fun hge => exec_wrBtnCmd_of_ge hge en, fun hlt => ?_⟩
  rw [exec_wrBtnCmd_of_lt hlt, State.modifyButton, modify_constructButton]

theorem exec_rdBtnCfgA (s : State) (b : BitVec 5) :
    exec (.rdBtnCfgA b) s = answer (s.buttonView b.toNat fun x => cfgWordA x.cfg) s := rfl

theorem exec_rdBtnCfgB (s : State) (b : BitVec 5) :
    exec (.rdBtnCfgB b) s = answer (s.buttonView b.toNat fun x => cfgWordB x.cfg) s := rfl

theorem exec_rdBtnRep (s : State) (b : BitVec 5) :
    exec (.rdBtnRep b) s = answer (s.buttonView b.toNat fun x => x.rep.setWidth 32) s := rfl

/-- Settles O10: the address of the register by its offset in the block, its content by the view of the button, and the value
of that content by its fields. -/
theorem readsOfAButton : Obligations.ReadsOfAButton := by
  intro s b
  refine ⟨⟨encodeRead_buttonOffset b 0x00#5, encodeRead_buttonOffset b 0x04#5, encodeRead_buttonOffset b 0x18#5⟩,
    fun hge => ?beyond, fun x hlt hx => ?inside⟩
  case beyond =>
    have hzero := exec_buttonReads_of_ge (s := s) hge
    exact ⟨hzero (0x00, .rdBtnCfgA b) (by simp [buttonReads]), hzero (0x04, .rdBtnCfgB b) (by simp [buttonReads]),
      hzero (0x18, .rdBtnRep b) (by simp [buttonReads])⟩
  case inside =>
    simp only [exec_rdBtnCfgA, exec_rdBtnCfgB, exec_rdBtnRep, State.buttonView_of_lt _ hlt hx]
    exact ⟨⟨_, rfl, cfgWordA_toNat x.cfg⟩, ⟨_, rfl, cfgWordB_toNat x.cfg⟩, _, rfl, setWidth_word_toNat x.rep (by decide)⟩

end Machine
end Sys2Proof
end

section
/-! One scan of a button, field by field (42_button_event_classifier.md R160 to R168). -/

namespace Sys2Proof.Machine

/-- The run of pressed samples that a scan with the pin at `pin` sees (R160). -/
def pressRun (pin : Bool) (x : Button) : Nat :=
  trailingOnes (push x.raw x.cfg.hs.toNat (pin == x.cfg.ah)) x.cfg.hs.toNat

/-- The filtered window that step 5 shifts: full where a Long is detected (R164). -/
def filtBeforeFilter (pin : Bool) (x : Button) : Wide :=
  if thresholdHit x.cfg (pressRun pin x) x.cfg.l.toNat then fill x.cfg.hs.toNat else x.filt

/-- The filtered window that steps 6 and 7 count clicks in (R137). -/
def filtered (pin : Bool) (x : Button) : Wide :=
  filterUpdate (push x.raw x.cfg.hs.toNat (pin == x.cfg.ah)) (filtBeforeFilter pin x) x.cfg.hs.toNat x.cfg.fs.toNat

variable (pin : Bool) (phase : Word) (b : Nat) (x : Button)

theorem scanButton_rep : (scanButton pin phase b x).1.rep = (repeatDetect x.cfg (pressRun pin x) phase x.rep).1 := rfl

theorem scanButton_repeats :
    (scanButton pin phase b x).2.repeats = (repeatDetect x.cfg (pressRun pin x) phase x.rep).2 := rfl

theorem scanButton_clicks : (scanButton pin phase b x).2.clicks
    = if gate (filtered pin x) x.cfg.hs.toNat x.cfg.af.toNat
      then risingEdgeCount (filtered pin x) x.cfg.hs.toNat (!x.cfg.mc) else 0 := rfl

theorem scanButton_filt : (scanButton pin phase b x).1.filt
    = if 0 < (scanButton pin phase b x).2.clicks then fill x.cfg.hs.toNat else filtered pin x := rfl

theorem scanButton_kind : (scanButton pin phase b x).2.kind
    = selectEvent (scanButton pin phase b x).2.repeats (scanButton pin phase b x).2.clicks
        (thresholdHit x.cfg (pressRun pin x) x.cfg.l.toNat) (thresholdHit x.cfg (pressRun pin x) x.cfg.ll.toNat) := rfl

variable {pin phase b x} {c : ButtonCfg} {run t : Nat} {rep : BitVec 8}

/-! ### Repeat detection (R162) -/

theorem repeatDetect_of_press (heval : c.l = 0#6 ∧ c.ll = 0#6 ∧ phase.toNat % (c.rs.toNat + 1) = 0)
    (hpress : 0 < c.r.toNat ∧ c.r.toNat ≤ run) :
    repeatDetect c run phase rep = (BitVec.ofNat 8 (min (rep.toNat + 1) 255), BitVec.ofNat 8 (min (rep.toNat + 1) 255)) :=
  (if_pos heval).trans (if_pos hpress)

theorem repeatDetect_of_no_press (heval : c.l = 0#6 ∧ c.ll = 0#6 ∧ phase.toNat % (c.rs.toNat + 1) = 0)
    (hpress : ¬(0 < c.r.toNat ∧ c.r.toNat ≤ run)) : repeatDetect c run phase rep = (0#8, 0#8) :=
  (if_pos heval).trans (if_neg hpress)

theorem repeatDetect_of_not_evaluated (heval : ¬(c.l = 0#6 ∧ c.ll = 0#6 ∧ phase.toNat % (c.rs.toNat + 1) = 0)) :
    repeatDetect c run phase rep = (rep, 0#8) := if_neg heval

/-- Without a long enough press no repeat is reported, evaluated or not. -/
theorem repeatDetect_snd_eq_zero (hpress : ¬(0 < c.r.toNat ∧ c.r.toNat ≤ run)) (phase : Word) (rep : BitVec 8) :
    (repeatDetect c run phase rep).2 = 0#8 := by
  by_cases heval : c.l = 0#6 ∧ c.ll = 0#6 ∧ phase.toNat % (c.rs.toNat + 1) = 0
  · rw [repeatDetect_of_no_press heval hpress]
  · rw [repeatDetect_of_not_evaluated heval]

/-- Settles O12, by the three cases of `repeatDetect`; a saturated counter fits its field. -/
theorem repeatDetection : Obligations.RepeatDetection := by
  intro pin phase b x
  rw [scanButton_rep, scanButton_repeats]
  refine ⟨fun heval hpress => ?_, fun heval hpress => ?_, fun heval => ?_⟩
  · rw [repeatDetect_of_press (run := pressRun pin x) heval hpress]
    exact ⟨Nat.mod_eq_of_lt (by omega), rfl⟩
  · rw [repeatDetect_of_no_press (run := pressRun pin x) heval hpress]
    exact ⟨rfl, rfl⟩
  · rw [repeatDetect_of_not_evaluated heval]
    exact ⟨rfl, rfl⟩

/-! ### Event selection (R163, R167) -/

theorem thresholdHit_iff : thresholdHit c run t = true ↔ c.r.toNat = 0 ∧ 0 < t ∧ run = t := by
  have hr : c.r = 0#8 ↔ c.r.toNat = 0 := BitVec.toNat_inj.symm
  rw [thresholdHit, Bool.and_eq_true, Bool.and_eq_true, decide_eq_true_iff, decide_eq_true_iff, decide_eq_true_iff, hr,
    and_assoc]

/-- Settles O13: the selection of the model, with the threshold tests spelled out. -/
theorem eventSelection : Obligations.EventSelection := by
  intro pin phase b x
  rw [scanButton_kind, selectEvent]
  simp only [thresholdHit_iff, pressRun]

/-! ### Clicks (R140, R166) -/

theorem scanButton_clicks_le : (scanButton pin phase b x).2.clicks
    ≤ risingEdgeCount (filtered pin x) x.cfg.hs.toNat (!x.cfg.mc) := by
  rw [scanButton_clicks]
  split
  · exact le_rfl
  · exact Nat.zero_le _

theorem risingEdgeCount_le_false (w : Wide) (hs : Nat) (single : Bool) :
    risingEdgeCount w hs single ≤ risingEdgeCount w hs false := by
  cases single with
  | false => exact le_rfl
  | true => exact (risingEdgeCount_true w hs).trans_le (Nat.min_le_left _ _)

/-- Settles O14: the frame by the shape of the scan, the windows by `scanButton_inv`, the clicks as rising edges. -/
theorem scanKeepsTheButtonInRange : Obligations.ScanKeepsTheButtonInRange := by
  intro pin phase b x hx
  obtain ⟨⟨⟨hmin, hmax⟩, -⟩, -⟩ := id hx
  refine ⟨rfl, rfl, scanButton_inv hx pin phase b, rfl, ?half, fun hmc => ?single, fun hclick => ?full⟩
  case half =>
    calc (scanButton pin phase b x).2.clicks
        ≤ risingEdgeCount (filtered pin x) x.cfg.hs.toNat (!x.cfg.mc) := scanButton_clicks_le
      _ ≤ risingEdgeCount (filtered pin x) x.cfg.hs.toNat false := risingEdgeCount_le_false _ _ _
      _ ≤ x.cfg.hs.toNat / 2 := risingEdgeCount_le_half (by omega) hmax
  case single =>
    have hclicks := scanButton_clicks_le (pin := pin) (phase := phase) (b := b) (x := x)
    rw [hmc, Bool.not_false, risingEdgeCount_true] at hclicks
    exact hclicks.trans (Nat.min_le_right _ _)
  case full => exact (scanButton_filt pin phase b x).trans (if_pos hclick)

end Sys2Proof.Machine
end

section
/-! What a scan sees of a press and of a release: the run of pressed samples, the filtered bit and the clicks
(41_majority_filter.md R136, R137; 42_button_event_classifier.md R160, R164). -/

namespace Sys2Proof.Machine

variable {w raw filt : Wide} {hs fs n : Nat}

theorem push_getLsbD_zero (hpos : 1 ≤ hs) (hhs : hs ≤ 64) (w : Wide) (v : Bool) : (push w hs v).getLsbD 0 = v := by
  simp [-BitVec.getLsbD_eq_getElem, push_getLsbD hhs, Nat.lt_of_succ_le hpos]

theorem le_trailingOnes_iff_bits (hn : n ≤ hs) : n ≤ trailingOnes w hs ↔ ∀ i, i < n → w.getLsbD i = true := by
  rw [trailingOnes, le_runFrom_iff hn]
  simp only [Nat.zero_add]

/-- A pressed sample makes the run one longer, as far as the window goes. -/
theorem trailingOnes_push_true (hhs : hs ≤ 64) (w : Wide) :
    trailingOnes (push w hs true) hs = min (trailingOnes w hs + 1) hs := by
  refine eq_of_forall_le_iff fun n => ?_
  by_cases hn : n ≤ hs
  case neg =>
    have hrun := trailingOnes_le (push w hs true) hs
    omega
  case pos =>
    cases n with
    | zero => simp
    | succ m =>
      have hbits : (∀ i, i < m + 1 → (push w hs true).getLsbD i = true) ↔ ∀ i, i < m → w.getLsbD i = true := by
        rw [Nat.forall_lt_succ_left]
        have hfirst : (push w hs true).getLsbD 0 = true := push_getLsbD_zero (by omega) hhs w true
        refine (and_iff_right hfirst).trans (forall₂_congr fun i hi => ?_)
        simp [-BitVec.getLsbD_eq_getElem, push_getLsbD hhs, (by omega : i + 1 < hs)]
      rw [le_trailingOnes_iff_bits hn, hbits, ← le_trailingOnes_iff_bits (Nat.le_of_succ_le hn), le_min_iff, Nat.succ_le_succ_iff]
      exact (and_iff_left hn).symm

/-- A released sample ends the run. -/
theorem trailingOnes_push_false (hpos : 1 ≤ hs) (hhs : hs ≤ 64) (w : Wide) : trailingOnes (push w hs false) hs = 0 :=
  trailingOnes_eq_zero (push_getLsbD_zero hpos hhs w false) hs

/-- With `FS = 1` the filtered bit is the newest sample. -/
theorem filterBit_one (hpos : 1 ≤ hs) (hhs : hs ≤ 64) (raw filt : Wide) : filterBit raw filt hs 1 = raw.getLsbD 0 := by
  have hones : lowAllOnes raw hs 1 = true ↔ raw.getLsbD 0 = true := by
    simp only [lowAllOnes_iff hhs, Nat.lt_one_iff, forall_eq]
    exact and_iff_right hpos
  have hzeros : lowAllZeros raw hs 1 = true ↔ raw.getLsbD 0 = false := by
    simp only [lowAllZeros_iff hhs, Nat.lt_one_iff, forall_eq]
    exact forall_prop_of_true hpos
  cases hbit : raw.getLsbD 0 with
  | true => exact if_pos (hones.mpr hbit)
  | false => exact (if_neg fun h => Bool.false_ne_true (hbit.symm.trans (hones.mp h))).trans (if_pos (hzeros.mpr hbit))

/-- A pressed sample never clears the bit of a full filtered window. -/
theorem filterBit_fill (hpos : 1 ≤ hs) (hhs : hs ≤ 64) (hfs : 1 ≤ fs) (hraw : raw.getLsbD 0 = true) :
    filterBit raw (fill hs) hs fs = true := by
  have hzeros : ¬lowAllZeros raw hs fs = true := fun h => by
    have hbit := (lowAllZeros_iff hhs).mp h 0 hfs hpos
    simp [-BitVec.getLsbD_eq_getElem, hraw] at hbit
  have hfull : test (fill hs) hs 0 = true := by rw [test_of_lt hpos, fill_getLsbD hhs]; exact decide_eq_true hpos
  rw [filterBit, if_neg hzeros, hfull, ite_self]

theorem push_fill (hhs : hs ≤ 64) : push (fill hs) hs true = fill hs :=
  BitVec.eq_of_getLsbD_eq fun i _ => by
    rw [push_getLsbD hhs, fill_getLsbD hhs, fill_getLsbD hhs]
    by_cases hi : i < hs
    · simp [hi, (by omega : i - 1 < hs)]
    · simp [hi]

/-- Every 1 in the window is followed by an older 1, up to the oldest bit. -/
def NoRisingEdge (hs : Nat) (w : Wide) : Prop := ∀ i, i + 1 < hs → w.getLsbD i = true → w.getLsbD (i + 1) = true

theorem NoRisingEdge.count (h : NoRisingEdge hs w) (hhs : hs ≤ 64) (single : Bool) : risingEdgeCount w hs single = 0 :=
  risingEdgeCount_eq_zero hhs h single

theorem NoRisingEdge.fill (hhs : hs ≤ 64) : NoRisingEdge hs (fill hs) := fun i hi _ => by
  rw [fill_getLsbD hhs, decide_eq_true hi]

theorem NoRisingEdge.push_false (h : NoRisingEdge hs w) (hhs : hs ≤ 64) : NoRisingEdge hs (push w hs false) := by
  intro i hi hbit
  cases i with
  | zero => simp [-BitVec.getLsbD_eq_getElem, push_getLsbD hhs] at hbit
  | succ i =>
    simp only [push_getLsbD hhs, hi, (by omega : i + 1 < hs), decide_true, Bool.true_and, Nat.add_one_ne_zero, if_false,
      Nat.add_sub_cancel] at hbit ⊢
    exact h i (by omega) hbit

/-- A 1 pushed onto a window whose newest bit is 0 makes an edge. -/
theorem risingEdgeCount_push_true (hmin : 2 ≤ hs) (hhs : hs ≤ 64) (hw : w.getLsbD 0 = false) :
    risingEdgeCount (push w hs true) hs true = 1 := by
  have hedge : risingAt (push w hs true) 0 = true := by
    simp [-BitVec.getLsbD_eq_getElem, risingAt, push_getLsbD hhs, hw, (by omega : 0 < hs)]
  have hpos : 0 < risingEdgeCount (push w hs true) hs false := by
    rw [risingEdgeCount_false hhs]
    exact List.countP_pos_iff.mpr ⟨0, List.mem_range.mpr (by omega), hedge⟩
  rw [risingEdgeCount_true]
  omega

/-! ### On a button -/

variable {pin : Bool} {phase : Word} {b : Nat} {x : Button}

theorem pressRun_of_pressed (hx : x.inv) (hpin : (pin == x.cfg.ah) = true) :
    pressRun pin x = min (trailingOnes x.raw x.cfg.hs.toNat + 1) x.cfg.hs.toNat := by
  obtain ⟨⟨⟨-, hmax⟩, -⟩, -⟩ := hx
  rw [pressRun, hpin, trailingOnes_push_true hmax]

theorem pressRun_of_released (hx : x.inv) (hpin : (pin == x.cfg.ah) = false) : pressRun pin x = 0 := by
  obtain ⟨⟨⟨hmin, hmax⟩, -⟩, -⟩ := hx
  rw [pressRun, hpin, trailingOnes_push_false (by omega) hmax]

theorem pressed_of_pressRun_pos (hx : x.inv) (h : 0 < pressRun pin x) : (pin == x.cfg.ah) = true := by
  by_contra hpin
  rw [pressRun_of_released hx (Bool.eq_false_of_not_eq_true hpin)] at h
  exact absurd h (Nat.lt_irrefl 0)

theorem scanButton_repeats_eq_zero (h : ¬(0 < x.cfg.r.toNat ∧ x.cfg.r.toNat ≤ pressRun pin x)) (phase : Word) (b : Nat) :
    (scanButton pin phase b x).2.repeats = 0#8 := repeatDetect_snd_eq_zero h phase x.rep

theorem thresholdHit_zero (c : ButtonCfg) (t : Nat) : thresholdHit c 0 t = false := by
  rw [← Bool.not_eq_true, thresholdHit_iff]
  omega

/-- Where nothing is detected, the filter shifts the filtered window as it is. -/
theorem filtBeforeFilter_of_not_hit (h : thresholdHit x.cfg (pressRun pin x) x.cfg.l.toNat = false) :
    filtBeforeFilter pin x = x.filt := if_neg (Bool.eq_false_iff.mp h)

/-- With `FS = 1` and no Long detected, the filtered window takes the sample of the scan. -/
theorem filtered_of_fs_one (hx : x.inv) (hfs : x.cfg.fs.toNat = 1)
    (hlong : thresholdHit x.cfg (pressRun pin x) x.cfg.l.toNat = false) :
    filtered pin x = push x.filt x.cfg.hs.toNat (pin == x.cfg.ah) := by
  obtain ⟨⟨⟨hmin, hmax⟩, -⟩, -⟩ := hx
  rw [filtered, filterUpdate, filtBeforeFilter_of_not_hit hlong, hfs, filterBit_one (by omega) hmax,
    push_getLsbD_zero (by omega) hmax]

/-- A detected Long leaves the filtered window full, for the press is still held (R164). -/
theorem filtered_of_long (hx : x.inv) (hlong : thresholdHit x.cfg (pressRun pin x) x.cfg.l.toNat = true) :
    filtered pin x = fill x.cfg.hs.toNat := by
  obtain ⟨-, hpos, hrun⟩ := thresholdHit_iff.mp hlong
  have hpin := pressed_of_pressRun_pos hx (hrun ▸ hpos)
  obtain ⟨⟨⟨hmin, hmax⟩, hfs, -⟩, -⟩ := hx
  have hnewest := push_getLsbD_zero (by omega) hmax x.raw true
  rw [filtered, filterUpdate, filtBeforeFilter, if_pos hlong, hpin, filterBit_fill (by omega) hmax hfs hnewest,
    push_fill hmax]

theorem scanButton_clicks_eq_zero (hmax : x.cfg.hs.toNat ≤ 64) (h : NoRisingEdge x.cfg.hs.toNat (filtered pin x)) :
    (scanButton pin phase b x).2.clicks = 0 :=
  Nat.le_zero.mp (scanButton_clicks_le.trans (h.count hmax _).le)

theorem scanButton_event_eq {k : EventType} {n : Nat} {r : BitVec 8} (hkind : (scanButton pin phase b x).2.kind = k)
    (hclicks : (scanButton pin phase b x).2.clicks = n) (hrepeats : (scanButton pin phase b x).2.repeats = r) :
    (scanButton pin phase b x).2 = { kind := k, button := b, clicks := n, repeats := r } := by
  subst hkind hclicks hrepeats; rfl

/-- Settles O15: the filtered window is full, so no edge is counted in it and nothing comes before the Long. -/
theorem longIsReportedWithoutClicks : Obligations.LongIsReportedWithoutClicks := by
  intro pin phase b x hx hr hpos hrun
  have hr0 : x.cfg.r.toNat = 0 := by rw [hr]; rfl
  have hlong : thresholdHit x.cfg (pressRun pin x) x.cfg.l.toNat = true := thresholdHit_iff.mpr ⟨hr0, hpos, hrun⟩
  have hfull := filtered_of_long hx hlong
  obtain ⟨⟨⟨-, hmax⟩, -⟩, -⟩ := hx
  have hrepeats : (scanButton pin phase b x).2.repeats = 0#8 := scanButton_repeats_eq_zero (by omega) phase b
  have hclicks : (scanButton pin phase b x).2.clicks = 0 :=
    scanButton_clicks_eq_zero hmax (hfull ▸ NoRisingEdge.fill hmax)
  have hkind : (scanButton pin phase b x).2.kind = .long := by
    rw [scanButton_kind, hrepeats, hclicks, hlong]; rfl
  refine ⟨scanButton_event_eq hkind hclicks hrepeats, ?_⟩
  rw [scanButton_filt, hclicks, if_neg (Nat.lt_irrefl 0), hfull, fill]

end Sys2Proof.Machine
end

section
/-! A hold: scan after scan with the pin pressed (42_button_event_classifier.md R174 item 2). -/

namespace Sys2Proof.Machine

/-- Scan `k` of a hold is the scan of a button of the same configuration whose run of pressed samples is longer by `k`. -/
theorem scanEvents_hold {b : Nat} {x : Button} (hx : x.inv) {phases : List Word} {k : Nat} {e : Event}
    (he : (scanEvents b (phases.map fun p => (x.cfg.ah, p)) x)[k]? = some e) :
    ∃ (phase : Word) (y : Button), y.inv ∧ y.cfg = x.cfg ∧ e = (scanButton x.cfg.ah phase b y).2
      ∧ trailingOnes y.raw x.cfg.hs.toNat = min (trailingOnes x.raw x.cfg.hs.toNat + k) x.cfg.hs.toNat := by
  induction phases generalizing x k with
  | nil => simp [scanEvents] at he
  | cons phase phases ih =>
    cases k with
    | zero =>
      have hrun := trailingOnes_le x.raw x.cfg.hs.toNat
      exact ⟨phase, x, hx, rfl, (Option.some.inj he).symm, (Nat.min_eq_left hrun).symm⟩
    | succ k =>
      obtain ⟨p, y, hy, hcfg, heq, hrun⟩ := ih (scanButton_inv hx x.cfg.ah phase b) he
      have hfirst := pressRun_of_pressed hx (beq_self_eq_true x.cfg.ah)
      refine ⟨p, y, hy, hcfg, heq, hrun.trans ?_⟩
      rw [scanButton_raw, scanButton_cfg, ← pressRun, hfirst]
      omega

/-- Without repeat detection a Long is reported exactly where its threshold is met: no click is counted there. -/
theorem scanButton_kind_eq_long_iff {x : Button} (hx : x.inv) (hr : x.cfg.r = 0#8) (pin : Bool) (phase : Word) (b : Nat) :
    (scanButton pin phase b x).2.kind = .long ↔ 0 < x.cfg.l.toNat ∧ pressRun pin x = x.cfg.l.toNat := by
  constructor
  · intro hkind
    rw [eventSelection] at hkind
    split_ifs at hkind with _ _ _ hlong
    obtain ⟨-, hlong⟩ := hlong
    exact hlong
  · rintro ⟨hpos, hrun⟩
    obtain ⟨hevent, -⟩ := longIsReportedWithoutClicks pin phase b x hx hr hpos hrun
    rw [hevent]

/-- Without repeat detection a LongLong is reported where its threshold is met, unless a Long or a click comes first. -/
theorem scanButton_kind_eq_longLong_iff {x : Button} (hr : x.cfg.r = 0#8) (pin : Bool) (phase : Word) (b : Nat) :
    (scanButton pin phase b x).2.kind = .longLong
      ↔ 0 < x.cfg.ll.toNat ∧ pressRun pin x = x.cfg.ll.toNat ∧ x.cfg.ll ≠ x.cfg.l ∧ (scanButton pin phase b x).2.clicks = 0 := by
  have hr0 : x.cfg.r.toNat = 0 := by rw [hr]; rfl
  have hrepeats : (scanButton pin phase b x).2.repeats.toNat = 0 := by
    rw [scanButton_repeats_eq_zero (by omega)]; rfl
  have hne : x.cfg.ll ≠ x.cfg.l ↔ x.cfg.ll.toNat ≠ x.cfg.l.toNat := BitVec.toNat_ne_iff_ne.symm
  rw [eventSelection, ← pressRun, hrepeats, hne]
  constructor
  · intro hkind
    split_ifs at hkind
    omega
  · rintro ⟨hpos, hrun, hdiffer, hclicks⟩
    rw [if_neg (by omega), if_neg (by omega), if_neg (by omega), if_neg (by omega), if_pos ⟨hr0, hpos, hrun⟩]

/-- Settles O16: scan number `k + 1` of the hold sees a run of `k + 1`, cut at the width, which lies above both thresholds. -/
theorem aHoldReportsEachThresholdOnce : Obligations.AHoldReportsEachThresholdOnce := by
  intro b x phases hx hreleased hr k e he
  obtain ⟨phase, y, hy, hcfg, rfl, hrun⟩ := scanEvents_hold hx he
  have hpress : pressRun x.cfg.ah y = min (k + 1) x.cfg.hs.toNat := by
    rw [pressRun_of_pressed hy (by rw [hcfg, beq_self_eq_true]), hcfg, hrun, trailingOnes_eq_zero hreleased]
    omega
  have hlong := scanButton_kind_eq_long_iff hy (hcfg ▸ hr) x.cfg.ah phase b
  have hlongLong := scanButton_kind_eq_longLong_iff (x := y) (hcfg ▸ hr) x.cfg.ah phase b
  rw [hpress, hcfg] at hlong hlongLong
  obtain ⟨⟨⟨hmin, -⟩, -, -, -, hl, hll⟩, -⟩ := hx
  have hreach {t : Nat} (ht : t ≤ x.cfg.hs.toNat - 1) : min (k + 1) x.cfg.hs.toNat = t ↔ k + 1 = t := by omega
  rw [hreach hl] at hlong
  rw [hreach hll] at hlongLong
  exact ⟨hlong, hlongLong⟩

end Sys2Proof.Machine
end

section
/-! One press (42_button_event_classifier.md R174 item 3). -/

namespace Sys2Proof.Machine

variable {b : Nat} {x : Button}

/-- A scan that reports no repeat and counts no click, with no run of pressed samples, reports nothing. -/
theorem scanButton_kind_eq_none {pin : Bool} {phase : Word} (hrun : pressRun pin x = 0)
    (hclicks : (scanButton pin phase b x).2.clicks = 0) : (scanButton pin phase b x).2.kind = .none := by
  have hrepeats : (scanButton pin phase b x).2.repeats = 0#8 := scanButton_repeats_eq_zero (by omega) phase b
  rw [scanButton_kind, hrepeats, hclicks, hrun, thresholdHit_zero, thresholdHit_zero]; rfl

/-- With `FS = 1`, release scans over a filtered window without an edge report nothing, however many they are. -/
theorem scanEvents_release (hx : x.inv) (hfs : x.cfg.fs.toNat = 1) (hfilt : NoRisingEdge x.cfg.hs.toNat x.filt)
    (phases : List Word) :
    (scanEvents b (phases.map fun p => (!x.cfg.ah, p)) x).map Event.kind = phases.map fun _ => .none := by
  induction phases generalizing x with
  | nil => rfl
  | cons phase phases ih =>
    have hpin : ((!x.cfg.ah) == x.cfg.ah) = false := Bool.not_beq_self _
    have hrun := pressRun_of_released hx hpin
    have hfiltered : filtered (!x.cfg.ah) x = push x.filt x.cfg.hs.toNat false := by
      rw [filtered_of_fs_one hx hfs (by rw [hrun, thresholdHit_zero]), hpin]
    obtain ⟨⟨⟨-, hmax⟩, -⟩, -⟩ := id hx
    have hnoEdge : NoRisingEdge x.cfg.hs.toNat (filtered (!x.cfg.ah) x) := hfiltered ▸ hfilt.push_false hmax
    have hclicks : (scanButton (!x.cfg.ah) phase b x).2.clicks = 0 := scanButton_clicks_eq_zero hmax hnoEdge
    have hnext : NoRisingEdge x.cfg.hs.toNat (scanButton (!x.cfg.ah) phase b x).1.filt := by
      rw [scanButton_filt, hclicks]; exact hnoEdge
    exact congrArg₂ List.cons (scanButton_kind_eq_none hrun hclicks) (ih (scanButton_inv hx _ phase b) hfs hnext)

/-- A press that reaches neither threshold is one click: with `FS = 1` it is an edge in the filtered window at once. -/
theorem scanButton_press_eq_single (hx : x.inv) (hraw : x.raw.getLsbD 0 = false) (hfilt : x.filt.getLsbD 0 = false)
    (hfs : x.cfg.fs.toNat = 1) (hmc : x.cfg.mc = false) (hr : x.cfg.r.toNat ≠ 1) (hl : x.cfg.l.toNat ≠ 1) (phase : Word) :
    (scanButton x.cfg.ah phase b x).2.kind = .single ∧ (scanButton x.cfg.ah phase b x).2.clicks = 1 := by
  have hpin := beq_self_eq_true x.cfg.ah
  obtain ⟨⟨⟨hmin, hmax⟩, -, -, haf, -⟩, -⟩ := id hx
  have hrun : pressRun x.cfg.ah x = 1 := by
    rw [pressRun_of_pressed hx hpin, trailingOnes_eq_zero hraw]
    omega
  have hlong : thresholdHit x.cfg (pressRun x.cfg.ah x) x.cfg.l.toNat = false := by
    rw [← Bool.not_eq_true, thresholdHit_iff]
    omega
  have hrepeats : (scanButton x.cfg.ah phase b x).2.repeats = 0#8 := scanButton_repeats_eq_zero (by omega) phase b
  have hclicks : (scanButton x.cfg.ah phase b x).2.clicks = 1 := by
    rw [scanButton_clicks, haf hmc, filtered_of_fs_one hx hfs hlong, hpin, hmc, Bool.not_false,
      risingEdgeCount_push_true (by omega) hmax hfilt]
    rfl
  refine ⟨?_, hclicks⟩
  rw [scanButton_kind, hrepeats, hclicks]; rfl

/-- Settles O17: the click of the press fills the filtered window, and the releases after it shift 0s into it, which make no
edge. -/
theorem onePressIsOneSingle : Obligations.OnePressIsOneSingle := by
  intro b x phase phases hx hraw hfilt hfs hmc hr hl
  obtain ⟨hkind, hclicks⟩ := scanButton_press_eq_single (b := b) hx hraw hfilt hfs hmc hr hl phase
  obtain ⟨⟨⟨-, hmax⟩, -⟩, -⟩ := id hx
  have hfull : NoRisingEdge x.cfg.hs.toNat (scanButton x.cfg.ah phase b x).1.filt := by
    rw [scanButton_filt, hclicks]; exact NoRisingEdge.fill hmax
  exact congrArg₂ List.cons hkind (scanEvents_release (scanButton_inv hx _ phase b) hfs hfull phases)

end Sys2Proof.Machine
end

section
/-! The group registers and the poll (43_button_group_queue.md R182 to R188). -/

namespace Sys2Proof.Machine

variable {s : State}

theorem exec_poll_of_nil (h : s.evq = []) : exec .poll s = answer 0#32 s := by
  simp only [exec, execPoll, h]

theorem exec_poll_of_cons {e : Word} {rest : List Word} (h : s.evq = e :: rest) :
    exec .poll s = answer e { s with evq := rest } := by
  simp only [exec, execPoll, h]

/-- Settles O21: the poll of an empty queue and the poll of a queue with a head. -/
theorem pollTakesTheOldestEvent : Obligations.PollTakesTheOldestEvent :=
  ⟨rfl, fun _ _ _ hq => exec_poll_of_cons hq, fun _ hq => exec_poll_of_nil hq⟩

theorem exec_wrGrpCfg (s : State) (n : BitVec 16) :
    exec (.wrGrpCfg n) s = .next { s with scanSkip := n, skipRem := n, scanCnt := 0#32 } := rfl

theorem exec_rdGrpCfg (s : State) : exec .rdGrpCfg s = answer (s.scanSkip.setWidth 32) s := rfl

theorem exec_rdGrpScancnt (s : State) : exec .rdGrpScancnt s = answer s.scanCnt s := rfl

theorem exec_rdGrpSkiprem (s : State) : exec .rdGrpSkiprem s = answer (s.skipRem.setWidth 32) s := rfl

theorem exec_rdEvqStatus (s : State) : exec .rdEvqStatus s = answer (BitVec.ofNat 32 s.evq.length) s := rfl

/-- Settles O22: each register by its own operation; a register of 16 bits is read zero-extended. -/
theorem groupRegisters : Obligations.GroupRegisters := by
  intro s n
  simp only [BitVec.ofNat_toNat]
  exact ⟨⟨rfl, exec_wrGrpCfg s n⟩, ⟨rfl, exec_rdGrpCfg s⟩, ⟨rfl, exec_rdGrpScancnt s⟩, ⟨rfl, exec_rdGrpSkiprem s⟩,
    rfl, exec_rdEvqStatus s⟩

end Sys2Proof.Machine
end

section
/-! One scan of the group as a whole: a skipped one, and a classifying one with the buttons it leaves and the events it queues
(43_button_group_queue.md R175 to R180). -/

namespace Sys2Proof.Machine

variable {s : State}

theorem exec_wrGrpScan (s : State) : exec .wrGrpScan s = .next (groupScan s) := rfl

theorem groupScan_of_skip (h : s.skipRem ≠ 0#16) : groupScan s = { s with skipRem := s.skipRem - 1#16 } := if_pos h

/-- Settles O20: `SKIP_REM` is not 0, so the decrement does not wrap. -/
theorem scanCommandSkips : Obligations.ScanCommandSkips := by
  refine ⟨rfl, fun s hskip => ?_⟩
  have hdown : s.skipRem - 1#16 = BitVec.ofNat 16 (s.skipRem.toNat - 1) := by bv_omega
  rw [exec_wrGrpScan, groupScan_of_skip hskip, hdown]

/-! ### The buttons -/

/-- What a classifying scan leaves of each button: an enabled one is scanned at its own pin and the common phase. -/
theorem scanButtons_buttons (pins phase : Word) (d b : Nat) (xs : List Button) (q : List Word) :
    (scanButtons pins phase d b xs q).1
      = xs.mapIdx fun k x => if x.en then (scanButton (pins.getLsbD (b + k)) phase (b + k) x).1 else x := by
  apply List.ext_getElem?
  intro k
  rw [scanButtons_getElem?, List.getElem?_mapIdx]

/-! ### The queue -/

/-- The event word that a classifying scan offers to the queue for a button at its index, if any. -/
def scanReport (pins phase : Word) (p : Button × Nat) : Option Word :=
  if p.1.en = true ∧ (scanButton (pins.getLsbD p.2) phase p.2 p.1).2.kind ≠ .none then
    some (eventWord (scanButton (pins.getLsbD p.2) phase p.2 p.1).2)
  else none

theorem groupEvents_eq_filterMap (s : State) :
    groupEvents s = s.buttons.zipIdx.filterMap (scanReport s.pinIn s.scanCnt) := rfl

/-- R180: whether the new event is appended or dropped, what the queue takes in the end is cut off at its depth. -/
theorem take_enqueue_append (d : Nat) (q : List Word) (w : Word) (ws : List Word) :
    (enqueue d q w ++ ws).take d = (q ++ w :: ws).take d := by
  rcases enqueue_cases d q w with ⟨-, h⟩ | ⟨hfull, h⟩ <;> rw [h]
  · rw [List.append_assoc, List.singleton_append]
  · rw [List.take_append_of_le_length hfull, List.take_append_of_le_length hfull]

theorem length_enqueue_le {d : Nat} {q : List Word} (hq : q.length ≤ d) (w : Word) : (enqueue d q w).length ≤ d := by
  rcases enqueue_cases d q w with ⟨hroom, h⟩ | ⟨-, h⟩ <;> rw [h]
  · simpa using hroom
  · exact hq

/-- A button that reports nothing leaves the queue to the buttons after it. -/
theorem scanButtons_queue_cons_none {pins phase : Word} {b : Nat} {x : Button} (h : scanReport pins phase (x, b) = none)
    (d : Nat) (xs : List Button) (q : List Word) :
    (scanButtons pins phase d b (x :: xs) q).2 = (scanButtons pins phase d (b + 1) xs q).2 := by
  rw [scanButtons]
  split
  · rename_i hen
    have hkind : (scanButton (pins.getLsbD b) phase b x).2.kind = .none := by simpa [scanReport, hen] using h
    simp only [offer, if_pos hkind]
  · rfl

/-- A button that reports an event offers it to the queue before the buttons after it. -/
theorem scanButtons_queue_cons_some {pins phase : Word} {b : Nat} {x : Button} {w : Word}
    (h : scanReport pins phase (x, b) = some w) (d : Nat) (xs : List Button) (q : List Word) :
    (scanButtons pins phase d b (x :: xs) q).2 = (scanButtons pins phase d (b + 1) xs (enqueue d q w)).2 := by
  obtain ⟨⟨hen, hkind⟩, hw⟩ := Option.ite_none_right_eq_some.mp h
  obtain rfl := Option.some.inj hw
  rw [scanButtons, if_pos hen]
  simp only [offer, if_neg hkind]

/-- R177, R180: the events of a scan enter in ascending button index, as far as the queue has room. -/
theorem scanButtons_queue_eq_take (pins phase : Word) {d : Nat} (b : Nat) (xs : List Button) {q : List Word}
    (hq : q.length ≤ d) :
    (scanButtons pins phase d b xs q).2 = (q ++ (xs.zipIdx b).filterMap (scanReport pins phase)).take d := by
  induction xs generalizing b q with
  | nil => simp [scanButtons, List.take_of_length_le hq]
  | cons x xs ih =>
    rw [List.zipIdx_cons, List.filterMap_cons]
    cases hreport : scanReport pins phase (x, b) with
    | none => rw [scanButtons_queue_cons_none hreport, ih (b + 1) hq]
    | some w =>
      rw [scanButtons_queue_cons_some hreport, ih (b + 1) (length_enqueue_le hq w), take_enqueue_append]

/-- R175: a classifying scan in terms of the buttons and of the events they report. -/
theorem groupScan_of_no_skip (hskip : s.skipRem = 0#16) (hroom : s.evq.length ≤ s.params.evqDepth) :
    groupScan s = { s with
      buttons := s.buttons.mapIdx fun b x => if x.en then (scanButton (s.pinIn.getLsbD b) s.scanCnt b x).1 else x
      evq := (s.evq ++ groupEvents s).take s.params.evqDepth
      scanCnt := s.scanCnt + 1#32 } := by
  rcases groupScan_cases s with ⟨hne, -⟩ | ⟨-, h⟩
  · exact absurd hskip hne
  · rw [h, scanButtons_buttons, scanButtons_queue_eq_take _ _ _ _ hroom, groupEvents_eq_filterMap]
    simp only [Nat.zero_add]

/-- Settles O19: the command is a classifying scan, whose count wraps. -/
theorem scanCommandClassifies : Obligations.ScanCommandClassifies := by
  intro s hskip hroom
  have hcount : s.scanCnt + 1#32 = BitVec.ofNat 32 (s.scanCnt.toNat + 1) := by bv_omega
  rw [exec_wrGrpScan, groupScan_of_no_skip hskip hroom, hcount]

end Sys2Proof.Machine
end

section
/-! R182, R189: what becomes of the queue over a step. After every operation but the poll, and after every service, the queue
starts with what it held before. -/

namespace Sys2Proof.Machine

variable {s t : State}

theorem evq_prefix_groupScan (s : State) : s.evq <+: (groupScan s).evq := by
  rcases groupScan_cases s with ⟨-, h⟩ | ⟨-, h⟩ <;> rw [h]
  obtain ⟨ws, hqueue, -⟩ := scanButtons_queue s.pinIn s.scanCnt s.params.evqDepth 0 s.buttons s.evq
  exact ⟨ws, hqueue.symm⟩

/-- Of the services, only that of a `SCAN` channel touches the queue, by a scan. -/
theorem evq_prefix_service (i : Nat) (s : State) : s.evq <+: (service i s).evq := by
  rcases service_cases i s with ⟨-, h⟩ | ⟨_, -, -, h⟩ | ⟨_, -, -, h⟩ | ⟨_, -, -, h⟩ <;> rw [h]
  · exact List.prefix_rfl
  · exact List.prefix_rfl
  · exact evq_prefix_groupScan (s.modifyChannel i ackChannel)

theorem evq_prefix_acknowledge (mask : BitVec 8) (s : State) : s.evq <+: (acknowledge mask s).evq :=
  acknowledge_induct (P := fun u => s.evq <+: u.evq) mask (fun u i _ hu _ _ => hu.trans (evq_prefix_service i u))
    List.prefix_rfl

theorem evq_prefix_of_settle (ht : settle s = some t) : s.evq <+: t.evq :=
  settleLoop_induct (P := fun u => s.evq <+: u.evq) (fun _ hu => hu)
    (fun u i _ hu _ _ => hu.trans (evq_prefix_service i u)) List.prefix_rfl ht

theorem almCommand_evq {effect : State → State} (heffect : ∀ u : State, (effect u).evq = u.evq)
    (op act : BitVec 2) (id : BitVec 8) (s : State) : (almCommand op act id effect s).evq = s.evq := by
  rcases almCommand_cases op act id effect s with ⟨-, h⟩ | ⟨-, h⟩ <;> rw [h]
  · exact heffect _
  · rfl

theorem endOfService_evq (id : BitVec 8) (s : State) : (endOfService id s).evq = s.evq := by
  rcases endOfService_cases id s with ⟨-, h⟩ | ⟨-, h⟩ <;> rw [h] <;> rfl

theorem evq_prefix_of_exec {i : Instr} (hi : i ≠ .poll) (ht : exec i s = .next t) : s.evq <+: t.evq := by
  by_cases hread : Instr.quietRead i = true
  · obtain ⟨v, hv⟩ := exec_of_quietRead hread s
    obtain rfl := answer_eq_next.mp (hv.symm.trans ht)
    exact List.prefix_rfl
  cases i with
  | wrBtnStageA | wrBtnStageB | wrGrpCfg | wrAlmInterval | wrAlmParam | wrInte | wrInteSet | wrInteClr | wrUnmapped =>
    cases ht; exact List.prefix_rfl
  | wrBtnCmd index en =>
    by_cases hindex : s.params.nbtn ≤ index.toNat
    · rw [exec_wrBtnCmd_of_ge hindex] at ht; cases ht; exact List.prefix_rfl
    · rw [exec_wrBtnCmd_of_lt (Nat.not_le.mp hindex)] at ht; cases ht; exact List.prefix_rfl
  | wrGrpScan => cases ht; exact evq_prefix_groupScan s
  | poll => exact absurd rfl hi
  | almClear | almSetOneshot | almSetRepeating | almCmdRsvd =>
    cases ht; rw [almCommand_evq]; exact fun _ => rfl
  | wrAlmEoi id => cases ht; rw [endOfService_evq]
  | wrIntr mask => cases ht; exact evq_prefix_acknowledge mask s
  | _ => exact absurd (by simp [Instr.quietRead, encode, encodeRead]) hread

theorem evq_eq_tail_of_exec_poll (ht : exec .poll s = .next t) : t.evq = s.evq.tail := by
  cases hq : s.evq with
  | nil => rw [exec_poll_of_nil hq] at ht; cases ht; exact hq
  | cons e rest => rw [exec_poll_of_cons hq] at ht; cases ht; rfl

theorem evq_of_tick (ht : tick s = .next t) : t.evq = s.evq := by
  rcases tick_cases s with ⟨-, h⟩ | ⟨-, h⟩ <;> rw [h] at ht <;> cases ht
  rfl

theorem nextEnvStep_evq (s : State) : (nextEnvStep s).2.evq = s.evq := by
  obtain ⟨rest, n, pins, h⟩ := nextEnvStep_state s
  rw [h]; rfl

/-- A poll comes from a read of `EVQ_POP` (30_encoding.md R90). -/
theorem decode_eq_poll {w : OpWord} (h : decode w = .ok .poll) : opRw w = false ∧ opAddr w = 0x090#12 :=
  and_addrMask_eq_iff.mp (followsTable_of_decode h).1

/-- The step is a host read of `EVQ_POP`, whatever data bits its word has. -/
def ReadsEventQueue (a : EnvAction) : Prop := ∃ w, a = .access 4 w ∧ opRw w = false ∧ opAddr w = 0x090#12

/-- R182, R189: a step keeps the queue and adds at its tail, or is a read of `EVQ_POP` and keeps all but the head. -/
theorem step_queue_cases (ht : step s = .next t) (hreset : (nextEnvStep s).1 ≠ .reset) :
    s.evq <+: t.evq ∨ (ReadsEventQueue (nextEnvStep s).1 ∧ s.evq.tail <+: t.evq) := by
  rw [← nextEnvStep_evq s]
  rcases step_cases ht with ⟨-, h⟩ | ⟨w, i, hw, hdecode, h⟩ | ⟨hr, -⟩
  · obtain ⟨u, hu, hsettle⟩ := finish_eq_next.mp h
    exact .inl (evq_of_tick hu ▸ evq_prefix_of_settle hsettle)
  · obtain ⟨u, hu, hsettle⟩ := finish_eq_next.mp h
    by_cases hi : i = .poll
    · subst hi
      exact .inr ⟨⟨w, hw, decode_eq_poll hdecode⟩, evq_eq_tail_of_exec_poll hu ▸ evq_prefix_of_settle hsettle⟩
    · exact .inl ((evq_prefix_of_exec hi hu).trans (evq_prefix_of_settle hsettle))
  · exact absurd hr hreset

/-- Settles O49: a step that keeps less than the whole queue is a poll, and takes the head at most. -/
theorem eventsLeaveOnlyByPollOrReset : Obligations.EventsLeaveOnlyByPollOrReset := by
  rintro s t _ rfl ht hreset
  rcases step_queue_cases ht hreset with ⟨ws, hkeep⟩ | ⟨⟨w, hw, hpoll⟩, ws, hkeep⟩
  · exact ⟨fun _ => ⟨ws, hkeep.symm⟩, ws, .inl hkeep.symm⟩
  · exact ⟨fun hother => absurd hpoll (hother w hw), ws, .inr hkeep.symm⟩

end Sys2Proof.Machine
end

section
/-! Identification and the clock (44_timer_alarm_scheduler.md R196 to R199, R203 to R205). -/

namespace Sys2Proof.Machine

theorem exec_rdId (s : State) : exec .rdId s = answer 0x44425331#32 s := rfl

theorem exec_rdParams (s : State) : exec .rdParams s = answer (paramsWord s.params) s := rfl

theorem exec_rdFloor (s : State) : exec .rdFloor s = answer s.params.floorUs s := rfl

theorem exec_rdTimelr (s : State) : exec .rdTimelr s = answer (loHalf s.counter) s := rfl

theorem exec_rdTimehr (s : State) : exec .rdTimehr s = answer (hiHalf s.counter) s := rfl

/-- `PARAMS` by its fields (30_encoding.md R93). -/
theorem paramsWord_toNat {p : Params} (hp : p.wf) :
    (paramsWord p).toNat = p.nbtn + 2 ^ 8 * p.nalm + 2 ^ 16 * p.evqDepth := by
  obtain ⟨⟨-, hnbtn⟩, ⟨-, hnalm⟩, ⟨-, hdepth⟩, -⟩ := hp
  have hn : (BitVec.ofNat 32 p.nbtn).toNat = p.nbtn := Nat.mod_eq_of_lt (by omega)
  have ha : (BitVec.ofNat 32 p.nalm).toNat = p.nalm := Nat.mod_eq_of_lt (by omega)
  have hd : (BitVec.ofNat 32 p.evqDepth).toNat = p.evqDepth := Nat.mod_eq_of_lt (by omega)
  obtain ⟨sum1, lt1⟩ := or_shiftLeft_toNat (x := BitVec.ofNat 32 p.nbtn) (y := BitVec.ofNat 32 p.nalm) (k := 8) 16
    (by omega) (by omega) (by decide) (by decide)
  obtain ⟨sum2, -⟩ := or_shiftLeft_toNat (y := BitVec.ofNat 32 p.evqDepth) 32 lt1 (by omega) (by decide) (by decide)
  rw [paramsWord, sum2, sum1, hn, ha, hd]

/-- None of the five registers is writable: a write to one decodes to the catch-all row (20_memory.md R69). -/
theorem decode_write_of_identification {a : Addr} (ha : a ∈ [0x000#12, 0x004#12, 0x008#12, 0x010#12, 0x014#12]) (d : Word) :
    decode (packOp true a d) = .ok (.wrUnmapped a) := by
  have hlist : ∀ a ∈ [0x000#12, 0x004#12, 0x008#12, 0x010#12, 0x014#12], wordAligned a = true ∧ namedWrite a = false := by
    simp only [List.forall_mem_cons]
    exact ⟨⟨rfl, rfl⟩, ⟨rfl, rfl⟩, ⟨rfl, rfl⟩, ⟨rfl, rfl⟩, ⟨rfl, rfl⟩, List.forall_mem_nil _⟩
  obtain ⟨halign, hnamed⟩ := hlist a ha
  rw [decode_packOp_write halign, decodeWrite_of_not_namedWrite hnamed]

/-- Settles O23: each register by its own read, the halves of the counter and the fields of `PARAMS` by arithmetic. -/
theorem identificationAndClock : Obligations.IdentificationAndClock := by
  intro s
  rw [exec_rdTimelr, exec_rdTimehr, loHalf_eq_ofNat, hiHalf_eq_ofNat]
  exact ⟨⟨rfl, exec_rdId s⟩, ⟨rfl, _, exec_rdParams s, paramsWord_toNat⟩, ⟨rfl, exec_rdFloor s⟩, ⟨rfl, rfl⟩,
    ⟨rfl, rfl⟩, fun _ ha d => ⟨decode_write_of_identification ha d, rfl⟩⟩

theorem hiHalf_toNat (v : Wide) : (hiHalf v).toNat = v.toNat / 2 ^ 32 := by
  rw [hiHalf_eq_ofNat, BitVec.toNat_ofNat]
  omega

theorem hiHalf_append_loHalf (v : Wide) : hiHalf v ++ loHalf v = v := by
  apply BitVec.eq_of_getLsbD_eq
  intro i hi
  rw [BitVec.getLsbD_append, loHalf, hiHalf, BitVec.getLsbD_extractLsb', BitVec.getLsbD_extractLsb']
  split
  · simp [*]
  · simp [show i - 32 < 32 by omega, show 32 + (i - 32) = i by omega]

/-- A counter that lies between two instants with the same high half has that high half. -/
theorem hiHalf_eq_of_between {c1 c2 c3 : Wide} (h12 : c1 ≤ c2) (h23 : c2 ≤ c3) (h : hiHalf c1 = hiHalf c3) :
    hiHalf c2 = hiHalf c1 := by
  have hlo := Nat.div_le_div_right (c := 2 ^ 32) (BitVec.le_def.mp h12)
  have hhi := Nat.div_le_div_right (c := 2 ^ 32) (BitVec.le_def.mp h23)
  rw [← BitVec.toNat_inj, hiHalf_toNat, hiHalf_toNat] at h ⊢
  omega

/-- Settles O24: a high half that did not change between its two reads is that of the counter at the read between them. -/
theorem clockReadReturnsTheCounter : Obligations.ClockReadReturnsTheCounter := by
  intro c1 c2 c3 h12 h23
  refine ⟨fun hsame => ?_, fun hne => clockReadResult_of_ne _ hne⟩
  rw [← hsame, clockReadResult_same, ← hiHalf_eq_of_between h12 h23 hsame, hiHalf_append_loHalf]

end Sys2Proof.Machine
end

section
/-! The command status and the registers of a channel (44_timer_alarm_scheduler.md R223 to R228). -/

namespace Sys2Proof

theorem channelOffset_eq_ofNat (j : BitVec 3) (off : BitVec 5) :
    channelOffset j off = BitVec.ofNat 12 (0x100 + off.toNat + 0x20 * j.toNat) := by
  apply BitVec.eq_of_toNat_eq
  rw [channelOffset_toNat, BitVec.toNat_ofNat]
  omega

theorem encodeRead_channelOffset (j : BitVec 3) (off : BitVec 5) :
    encodeRead (channelOffset j off) = packOp false (BitVec.ofNat 12 (0x100 + off.toNat + 0x20 * j.toNat)) 0#32 := by
  rw [encodeRead, channelOffset_eq_ofNat]

namespace Machine

theorem exec_rdAlmStatus (s : State) : exec .rdAlmStatus s = answer (s.almStatus.setWidth 32) s := rfl

theorem exec_rdAlmTargetLo (s : State) (i : BitVec 3) :
    exec (.rdAlmTargetLo i) s = answer (s.channelView i.toNat fun c => loHalf c.target) s := rfl

theorem exec_rdAlmTargetHi (s : State) (i : BitVec 3) :
    exec (.rdAlmTargetHi i) s = answer (s.channelView i.toNat fun c => hiHalf c.target) s := rfl

theorem exec_rdAlmIntervalI (s : State) (i : BitVec 3) :
    exec (.rdAlmIntervalI i) s = answer (s.channelView i.toNat fun c => c.interval) s := rfl

theorem exec_rdAlmParamI (s : State) (i : BitVec 3) :
    exec (.rdAlmParamI i) s = answer (s.channelView i.toNat fun c => c.param) s := rfl

theorem exec_rdAlmCtrl (s : State) (i : BitVec 3) :
    exec (.rdAlmCtrl i) s = answer (s.channelView i.toNat ctrlWord) s := rfl

theorem actionCode_toNat_le (a : AlarmAction) : (actionCode a).toNat ≤ 2 := by cases a <;> decide

/-- `ALMi_CTRL` by its fields (30_encoding.md R100). -/
theorem ctrlWord_toNat (c : Channel) : (ctrlWord c).toNat
    = c.repeating.toNat + 2 * (actionCode c.action).toNat + 8 * c.armed.toNat + 16 * c.insvc.toNat
        + 32 * c.rearmOk.toNat := by
  have haction := actionCode_toNat_le c.action
  have hbit (b : Bool) : (bit32 b).toNat = b.toNat ∧ b.toNat < 2 := ⟨bit32_toNat b, b.toNat_lt⟩
  obtain ⟨hrepeating, hrepeating_lt⟩ := hbit c.repeating
  obtain ⟨harmed, harmed_lt⟩ := hbit c.armed
  obtain ⟨hinsvc, hinsvc_lt⟩ := hbit c.insvc
  obtain ⟨hrearm, hrearm_lt⟩ := hbit c.rearmOk
  obtain ⟨sum1, lt1⟩ := or_shiftLeft_toNat (x := bit32 c.repeating) (y := actionCode c.action) (k := 1) 3 (by omega)
    (by omega) (by decide) (by decide)
  obtain ⟨sum2, lt2⟩ := or_shiftLeft_toNat (y := bit32 c.armed) 4 lt1 (by omega) (by decide) (by decide)
  obtain ⟨sum3, lt3⟩ := or_shiftLeft_toNat (y := bit32 c.insvc) 5 lt2 (by omega) (by decide) (by decide)
  obtain ⟨sum4, -⟩ := or_shiftLeft_toNat (y := bit32 c.rearmOk) 6 lt3 (by omega) (by decide) (by decide)
  rw [ctrlWord, sum4, sum3, sum2, sum1]
  omega

/-- Settles O26: the address of the register by its offset in the block, its content by the view of the channel, and the value
of `ALMi_CTRL` by its fields. -/
theorem readsOfAChannel : Obligations.ReadsOfAChannel := by
  intro s i
  refine ⟨⟨rfl, by rw [exec_rdAlmStatus, BitVec.ofNat_toNat]; rfl⟩,
    ⟨encodeRead_channelOffset i 0x00#5, encodeRead_channelOffset i 0x04#5, encodeRead_channelOffset i 0x08#5,
      encodeRead_channelOffset i 0x0C#5, encodeRead_channelOffset i 0x10#5⟩, fun hge => ?beyond, fun c hlt hc => ?inside⟩
  case beyond =>
    have hzero := exec_channelReads_of_ge (s := s) hge
    exact ⟨hzero (0x00, .rdAlmTargetLo i) (by simp [channelReads]), hzero (0x04, .rdAlmTargetHi i) (by simp [channelReads]),
      hzero (0x08, .rdAlmIntervalI i) (by simp [channelReads]), hzero (0x0C, .rdAlmParamI i) (by simp [channelReads]),
      hzero (0x10, .rdAlmCtrl i) (by simp [channelReads])⟩
  case inside =>
    simp only [exec_rdAlmTargetLo, exec_rdAlmTargetHi, exec_rdAlmIntervalI, exec_rdAlmParamI, exec_rdAlmCtrl,
      State.channelView_of_lt _ hlt hc, loHalf_eq_ofNat, hiHalf_eq_ofNat]
    refine ⟨rfl, rfl, rfl, rfl, _, rfl, ?_⟩
    rw [ctrlWord_toNat]
    cases c.action <;> rfl

end Machine
end Sys2Proof
end

section
/-! The alarm commands, the rearm and the end of service (44_timer_alarm_scheduler.md R210 to R222). -/

namespace Sys2Proof

/-- The data word of `ALM_CMD` by its fields (30_encoding.md R97). -/
theorem almCmdData_eq_ofNat (op act : BitVec 2) (id : BitVec 8) :
    almCmdData op act id = BitVec.ofNat 32 (op.toNat + 4 * act.toNat + 256 * id.toNat) := by
  have hop := setWidth_word_toNat op (by decide)
  have hact := setWidth_word_toNat act (by decide)
  have hid := setWidth_word_toNat id (by decide)
  obtain ⟨sum1, lt1⟩ := or_shiftLeft_toNat (x := op.setWidth 32) (y := act.setWidth 32) (k := 2) 8 (by omega) (by omega)
    (by decide) (by decide)
  obtain ⟨sum2, -⟩ := or_shiftLeft_toNat (y := id.setWidth 32) 16 lt1 (by omega) (by decide) (by decide)
  apply BitVec.eq_of_toNat_eq
  rw [BitVec.toNat_ofNat, Nat.mod_eq_of_lt (by omega), almCmdData, sum2, sum1, hop, hact, hid]
  rfl

theorem encodeWrite_almCmdData (op act : BitVec 2) (id : BitVec 8) :
    encodeWrite 0x048#12 (almCmdData op act id)
      = packOp true 0x048#12 (BitVec.ofNat 32 (op.toNat + 4 * act.toNat + 256 * id.toNat)) := by
  rw [encodeWrite, almCmdData_eq_ofNat]

namespace Machine

variable {s : State} {op act : BitVec 2} {id : BitVec 8}

/-! ### `Validate` (R215) -/

theorem almCommand_of_ge (hid : s.params.nalm ≤ id.toNat) (op act : BitVec 2) (effect : State → State) :
    almCommand op act id effect s = s.setAlmStatus statusErrId := by
  have hstatus : commandStatus s.params.nalm op act id = statusErrId := if_pos hid
  rw [almCommand, hstatus]
  exact if_neg (by decide)

theorem almCommand_of_errArg (hid : id.toNat < s.params.nalm)
    (harg : op = 3#2 ∨ ((op = 1#2 ∨ op = 2#2) ∧ ¬(act = 1#2 ∨ act = 2#2))) (effect : State → State) :
    almCommand op act id effect s = s.setAlmStatus statusErrArg := by
  have hstatus : commandStatus s.params.nalm op act id = statusErrArg :=
    (if_neg (Nat.not_le.mpr hid)).trans (if_pos harg)
  rw [almCommand, hstatus]
  exact if_neg (by decide)

theorem almCommand_of_ok (hid : id.toNat < s.params.nalm) (hop : op ≠ 3#2)
    (hact : op = 1#2 ∨ op = 2#2 → act = 1#2 ∨ act = 2#2) (effect : State → State) :
    almCommand op act id effect s = effect (s.setAlmStatus statusOk) :=
  if_pos (commandStatus_ok.mpr ⟨hid, hop, hact⟩)

theorem exec_almClear (s : State) (id : BitVec 8) :
    exec (.almClear id) s = .next (almCommand 0#2 0#2 id (fun t => t.modifyChannel id.toNat clearChannel) s) := rfl

theorem exec_almSetOneshot (s : State) (act : BitVec 2) (id : BitVec 8) : exec (.almSetOneshot act id) s
    = .next (almCommand 1#2 act id (register id.toNat false (actionOf act)) s) := rfl

theorem exec_almSetRepeating (s : State) (act : BitVec 2) (id : BitVec 8) : exec (.almSetRepeating act id) s
    = .next (almCommand 2#2 act id (register id.toNat true (actionOf act)) s) := rfl

theorem exec_almCmdRsvd (s : State) (id : BitVec 8) :
    exec (.almCmdRsvd id) s = .next (almCommand 3#2 0#2 id (fun t => t) s) := rfl

theorem exec_wrAlmEoi (s : State) (id : BitVec 8) : exec (.wrAlmEoi id) s = .next (endOfService id s) := rfl

/-- Settles O28: a clear passes `Validate` for every legal id. -/
theorem clearFreesTheChannel : Obligations.ClearFreesTheChannel := by
  intro s id
  refine ⟨?word, fun hlt => ?legal, fun hge => ?illegal⟩
  case word =>
    rw [encode, encodeWrite_almCmdData]
    simp
  case legal => rw [exec_almClear, almCommand_of_ok hlt (by decide) (by decide)]; rfl
  case illegal => rw [exec_almClear, almCommand_of_ge hge]; rfl

/-- R216: a reserved action is none that a set command takes. -/
theorem not_action_of_reserved (h : act = 0#2 ∨ act = 3#2) : ¬(act = 1#2 ∨ act = 2#2) := by
  rcases h with rfl | rfl <;> decide

/-- Settles O30: `Validate`, case by case: the id, the op-code and the action. -/
theorem validationOfAlarmCommands : Obligations.ValidationOfAlarmCommands := by
  intro s act id
  refine ⟨?word, fun hge => ?illegal, fun hlt => ⟨?reserved, fun hact => ?action, ?clear, fun hact => ?set⟩⟩
  case word =>
    rw [encode, encodeWrite_almCmdData]
    simp
  case illegal =>
    simp only [exec_almClear, exec_almSetOneshot, exec_almSetRepeating, exec_almCmdRsvd, almCommand_of_ge hge]
    exact ⟨rfl, rfl, rfl, rfl⟩
  case reserved => rw [exec_almCmdRsvd, almCommand_of_errArg hlt (.inl rfl)]; rfl
  case action =>
    have hno := not_action_of_reserved hact
    rw [exec_almSetOneshot, exec_almSetRepeating, almCommand_of_errArg hlt (.inr ⟨.inl rfl, hno⟩),
      almCommand_of_errArg hlt (.inr ⟨.inr rfl, hno⟩)]
    exact ⟨rfl, rfl⟩
  case clear => exact ⟨_, exec_almClear s id, by rw [almCommand_of_ok hlt (by decide) (by decide)]; rfl⟩
  case set =>
    exact ⟨⟨_, exec_almSetOneshot s act id, by rw [almCommand_of_ok hlt (by decide) fun _ => hact]; rfl⟩,
      _, exec_almSetRepeating s act id, by rw [almCommand_of_ok hlt (by decide) fun _ => hact]; rfl⟩

/-! ### Registration (R212) -/

theorem floorClamp_toNat (floor staged : Word) : (floorClamp floor staged).toNat = max staged.toNat floor.toNat := by
  unfold floorClamp
  split
  · rename_i h; exact (max_eq_right (BitVec.lt_def.mp h).le).symm
  · rename_i h; exact (max_eq_left (Nat.not_lt.mp fun hlt => h (BitVec.lt_def.mpr hlt))).symm

theorem word_setWidth_wide_toNat (w : Word) : (w.setWidth 64).toNat = w.toNat := BitVec.toNat_setWidth_of_le (by decide)

/-- The sum of an instant and a word, modulo 2^64. -/
theorem wide_add_word_eq_ofNat (v : Wide) (w : Word) : v + w.setWidth 64 = BitVec.ofNat 64 (v.toNat + w.toNat) := by
  apply BitVec.eq_of_toNat_eq
  rw [BitVec.toNat_add, word_setWidth_wide_toNat, BitVec.toNat_ofNat]

theorem registerTarget_eq_ofNat (floor ival : Word) (now : Wide) : registerTarget floor ival now
    = BitVec.ofNat 64 (if (now.toNat + ival.toNat) % 2 ^ 64 ≤ now.toNat then now.toNat + floor.toNat
        else now.toNat + ival.toNat) := by
  simp only [registerTarget, wide_add_word_eq_ofNat, BitVec.le_def, BitVec.toNat_ofNat]
  split <;> rfl

theorem actionOf_eq_ite (h : act = 1#2 ∨ act = 2#2) : actionOf act = if act = 1#2 then .host else .scan := by
  rcases h with rfl | rfl <;> rfl

/-- R213, R214: a set command with a legal id and action registers the channel. -/
theorem exec_set_of_ok (hid : id.toNat < s.params.nalm) (hact : act = 1#2 ∨ act = 2#2) (rep : Bool) :
    exec (if rep then .almSetRepeating act id else .almSetOneshot act id) s
      = .next (register id.toNat rep (actionOf act) (s.setAlmStatus statusOk)) := by
  cases rep
  · exact (exec_almSetOneshot s act id).trans (by rw [almCommand_of_ok hid (by decide) fun _ => hact])
  · exact (exec_almSetRepeating s act id).trans (by rw [almCommand_of_ok hid (by decide) fun _ => hact])

/-- Settles O29: below the wrap region the sum does not wrap, and the interval is not 0; the registered channel has the clamped
interval and its target. -/
theorem registrationArmsTheChannel : Obligations.RegistrationArmsTheChannel := by
  intro s rep act id ival target hival htarget
  refine ⟨?word, fun hwrap hfloor => ?ahead, fun hid hact => ?legal⟩
  case word =>
    cases rep
    · exact encodeWrite_almCmdData 1#2 act id
    · exact encodeWrite_almCmdData 2#2 act id
  case ahead =>
    have hstaged := s.almIntervalStg.isLt
    have hfloor_lt := s.params.floorUs.isLt
    unfold Config.wrapLimit at hwrap
    rw [htarget, if_neg (by omega)]
  case legal =>
    have hclamp : (floorClamp s.params.floorUs s.almIntervalStg).toNat = ival := by rw [floorClamp_toNat, hival]
    have hinterval : floorClamp s.params.floorUs s.almIntervalStg = BitVec.ofNat 32 ival := by
      rw [← hclamp, BitVec.ofNat_toNat, BitVec.setWidth_eq]
    have hregister : registerTarget s.params.floorUs (floorClamp s.params.floorUs s.almIntervalStg) s.counter
        = BitVec.ofNat 64 target := by rw [registerTarget_eq_ofNat, hclamp, htarget]
    rw [exec_set_of_ok hid hact, actionOf_eq_ite hact, ← hinterval, ← hregister]
    rfl

/-! ### Rearm (R220) -/

/-- Rewriting one entry, where it is known. -/
theorem modify_eq_set {α : Type} {l : List α} {i : Nat} {x : α} (h : l[i]? = some x) (f : α → α) :
    l.modify i f = l.set i (f x) := by
  rw [List.modify_eq_set_getElem?, h]
  rfl

theorem rearm_eq_set {i : Nat} {c : Channel} (hc : s.channels[i]? = some c) :
    rearm i s = { s with channels := s.channels.set i (rearmChannel s.params.floorUs s.counter c) } := by
  rw [rearm, State.modifyChannel, modify_eq_set hc]

theorem rearmChannel_of_oneshot {c : Channel} (h : c.repeating = false) (floor : Word) (now : Wide) :
    rearmChannel floor now c = { c with action := .none, armed := false, inte := false } := by
  rw [rearmChannel, if_neg (by simp [h])]

theorem rearmChannel_of_repeating {c : Channel} (h : c.repeating = true) (floor : Word) (now : Wide) :
    rearmChannel floor now c = { c with target := rearmTarget floor c.interval now c.target, armed := true } := by
  rw [rearmChannel, if_pos h]

theorem rearmTarget_eq_ofNat (floor ival : Word) (now target : Wide) {next : Nat}
    (hnext : next = (target.toNat + ival.toNat) % 2 ^ 64) : rearmTarget floor ival now target
      = BitVec.ofNat 64 (if next < now.toNat ∧ floor.toNat < now.toNat - next then now.toNat + floor.toNat else next) := by
  have hsum : (target + ival.setWidth 64).toNat = next := by
    rw [wide_add_word_eq_ofNat, BitVec.toNat_ofNat, hnext]
  have hcond : (target + ival.setWidth 64 < now ∧ floor.setWidth 64 < now - (target + ival.setWidth 64))
      ↔ (next < now.toNat ∧ floor.toNat < now.toNat - next) := by
    rw [BitVec.lt_def, BitVec.lt_def, word_setWidth_wide_toNat, hsum]
    refine and_congr_right fun hlt => ?_
    rw [BitVec.toNat_sub_of_le (BitVec.le_def.mpr (by omega)), hsum]
  have hkeep : target + ival.setWidth 64 = BitVec.ofNat 64 next := by rw [← hsum, BitVec.ofNat_toNat, BitVec.setWidth_eq]
  rw [rearmTarget, wide_add_word_eq_ofNat now, hkeep]
  rw [hkeep] at hcond
  simp only [hcond]
  split <;> rfl

/-- Below the wrap region an elapsed target plus an interval does not wrap. -/
theorem add_interval_lt {now target : Wide} (hwrap : now.toNat < Config.wrapLimit) (hpast : target.toNat ≤ now.toNat)
    (ival : Word) : target.toNat + ival.toNat < 2 ^ 64 := by
  have hival := ival.isLt
  unfold Config.wrapLimit at hwrap
  omega

/-- R219, phase lock: the next period of an alarm that is serviced before it ends. -/
theorem rearmTarget_of_in_time {ival : Word} {now target : Wide} (hwrap : now.toNat < Config.wrapLimit)
    (hpast : target.toNat ≤ now.toNat) (htime : now.toNat < target.toNat + ival.toNat) (floor : Word) :
    rearmTarget floor ival now target = BitVec.ofNat 64 (target.toNat + ival.toNat) := by
  have hnext := (Nat.mod_eq_of_lt (add_interval_lt hwrap hpast ival)).symm
  rw [rearmTarget_eq_ofNat floor ival now target hnext, if_neg (by omega)]

theorem fireChannel_of_due {now : Wide} {c : Channel} (h : c.due now = true) :
    fireChannel now c = { c with intr := true, armed := false } := if_pos h

theorem fireChannel_of_not_due {now : Wide} {c : Channel} (h : c.due now = false) : fireChannel now c = c :=
  if_neg (by simp [h])

theorem fireAll_getElem? (s : State) (i : Nat) :
    (fireAll s).channels[i]? = s.channels[i]?.map (fireChannel s.counter) := List.getElem?_map

/-- Settles O31, by the two branches of a rearm and, of a repeating alarm, by where its next period lies. -/
theorem rearmIsPhaseLocked : Obligations.RearmIsPhaseLocked := by
  intro s i c hc
  have hset := rearm_eq_set hc
  refine ⟨fun hone => ?oneshot, fun hrep next hnext => ?repeating, fun hrep next hnext hpast hlate => ?elapsed,
    fun hrep hwrap hpast hlatency => ?locked⟩
  case oneshot => rw [hset, rearmChannel_of_oneshot hone]
  case repeating => rw [hset, rearmChannel_of_repeating hrep, rearmTarget_eq_ofNat _ _ _ _ hnext]
  case elapsed =>
    have hnext_toNat : (BitVec.ofNat 64 next).toNat = next := by rw [BitVec.toNat_ofNat, hnext, Nat.mod_mod]
    have hchannel : (rearm i s).channels[i]? = some { c with target := BitVec.ofNat 64 next, armed := true } := by
      have hlt := (List.getElem?_eq_some_iff.mp hc).1
      rw [hset, List.getElem?_set_self hlt, rearmChannel_of_repeating hrep, rearmTarget_eq_ofNat _ _ _ _ hnext,
        if_neg (by omega)]
    rw [fireAll_getElem?, hchannel, Option.map_some, fireChannel_of_due]
    exact Channel.due_eq_true.mpr ⟨rfl, BitVec.le_def.mpr (hnext_toNat.trans_le hpast)⟩
  case locked =>
    have hpast' := BitVec.le_def.mp hpast
    have htime : s.counter.toNat < c.target.toNat + c.interval.toNat := by omega
    rw [hset, rearmChannel_of_repeating hrep, rearmTarget_of_in_time hwrap hpast' htime]
    exact ⟨htime, rfl⟩

/-! ### End of service (R222) -/

theorem exec_wrAlmEoi_of_ge (hid : s.params.nalm ≤ id.toNat) : exec (.wrAlmEoi id) s = .next (s.setAlmStatus statusErrId) := by
  rcases endOfService_cases id s with ⟨-, h⟩ | ⟨hlt, -⟩
  · rw [exec_wrAlmEoi, h]
  · exact absurd hlt (Nat.not_lt.mpr hid)

theorem exec_wrAlmEoi_of_lt (hid : id.toNat < s.params.nalm) {c : Channel} (hc : s.channels[id.toNat]? = some c) :
    exec (.wrAlmEoi id) s = .next { s with
      almStatus := statusOk
      channels := s.channels.set id.toNat (leaveHostService s.params.floorUs s.counter c) } := by
  rcases endOfService_cases id s with ⟨hge, -⟩ | ⟨-, h⟩
  · exact absurd hid (Nat.not_lt.mpr hge)
  · rw [exec_wrAlmEoi, h, State.modifyChannel, State.setAlmStatus_channels, modify_eq_set hc]
    rfl

theorem set_getElem?_self {α : Type} {l : List α} {i : Nat} {x : α} (h : l[i]? = some x) : l.set i x = l := by
  obtain ⟨hlt, rfl⟩ := List.getElem?_eq_some_iff.mp h
  exact List.set_getElem_self hlt

/-- Settles O32, by the branches of `leaveHostService`, the last of them by whether the alarm repeats (the name `endOfService`
is the model's own operation). -/
theorem endOfServiceWrite : Obligations.EndOfService := by
  intro s id
  refine ⟨rfl, fun hge => exec_wrAlmEoi_of_ge hge, fun c hlt hc => ?_⟩
  rw [exec_wrAlmEoi_of_lt hlt hc]
  refine ⟨fun hout => ?_, fun hin hno => ?_, fun hin hyes hone => ?_, fun hin hyes hrep => ?_⟩
  · rw [leaveHostService, if_neg (by simp [hout]), set_getElem?_self hc]
    rfl
  · rw [leaveHostService, if_pos hin, if_neg (by simp [hno])]
    rfl
  · rw [leaveHostService, if_pos hin, if_pos hyes, rearmChannel_of_oneshot (by exact hone)]
    rfl
  · rw [leaveHostService, if_pos hin, if_pos hyes, rearmChannel_of_repeating (by exact hrep)]
    rfl

end Machine
end Sys2Proof
end

section
/-! The comparators and the interrupt lines (44_timer_alarm_scheduler.md R217; 45_interrupt_arbiter.md R242). -/

namespace Sys2Proof.Machine

theorem irq_eq_true_iff {c : Channel} : c.irq = true ↔ c.intr = true ∧ c.inte = true ∧ c.action = .host := by
  simp [Channel.irq, Channel.requesting, and_assoc]

theorem State.irq_of_getElem? {s : State} {i : Nat} {c : Channel} (h : s.channels[i]? = some c) : s.irq i = c.irq := by
  simp only [State.irq, h]

theorem State.irq_of_getElem?_none {s : State} {i : Nat} (h : s.channels[i]? = none) : s.irq i = false := by
  simp only [State.irq, h]

theorem fireChannel_eq_ite (now : Wide) (c : Channel) : fireChannel now c
    = if c.armed = true ∧ c.target.toNat ≤ now.toNat then { c with intr := true, armed := false } else c := by
  simp only [fireChannel, Channel.due_eq_true, BitVec.le_def]

/-- Settles O35: the comparator of each channel, and the line of a channel that exists or not. -/
theorem comparatorsAndLines : Obligations.ComparatorsAndLines := by
  intro s
  refine ⟨?_, fun i => ?_⟩
  · rw [fireAll, funext (fireChannel_eq_ite s.counter)]
  · cases hc : s.channels[i]? with
    | none => simp [State.irq_of_getElem?_none hc]
    | some c => simp [State.irq_of_getElem? hc, irq_eq_true_iff]

end Sys2Proof.Machine
end

section
/-! What a step does to the counter and to the alarm channels: one inversion lemma for the operations, and what the services
and `Settle` leave alone (44_timer_alarm_scheduler.md R195, R212, R215, R222). -/

namespace Sys2Proof

/-- The channel that an `ALM_CMD` write names (30_encoding.md R97). -/
def commandChannel : Instr → Option (BitVec 8)
  | .almClear id | .almCmdRsvd id | .almSetOneshot _ id | .almSetRepeating _ id => some id
  | _ => none

theorem commandChannel_decodeAlmCmd (d : Word) : commandChannel (decodeAlmCmd d) = some (d.extractLsb' 8 8) := by
  rcases decodeAlmCmd_cases d with h | h | h | h <;> rw [h] <;> rfl

theorem opcodeRow_of_commandChannel {i : Instr} {id : BitVec 8} (h : commandChannel i = some id) :
    ∃ op : BitVec 2, opcodeRow i = (0x1FFF00000003#45, packOp true 0x048#12 (op.setWidth 32)) := by
  cases i with
  | almClear => exact ⟨0#2, rfl⟩
  | almSetOneshot => exact ⟨1#2, rfl⟩
  | almSetRepeating => exact ⟨2#2, rfl⟩
  | almCmdRsvd => exact ⟨3#2, rfl⟩
  | _ => cases h

/-- A command comes from a write to `ALM_CMD` that names its channel. -/
theorem decode_command {w : OpWord} {i : Instr} {id : BitVec 8} (h : decode w = .ok i) (hi : commandChannel i = some id) :
    opRw w = true ∧ opAddr w = 0x048#12 ∧ id.toNat = (opData w).toNat / 256 % 256 := by
  obtain ⟨op, hrow⟩ := opcodeRow_of_commandChannel hi
  have htakes := (followsTable_of_decode h).1
  rw [hrow] at htakes
  obtain ⟨hrw, haddr, -⟩ := and_cmdMask_eq_iff.mp htakes
  refine ⟨hrw, haddr, ?_⟩
  rw [← packOp_fields w, hrw, haddr, decode_packOp_almCmd] at h
  rw [← Except.ok.inj h, commandChannel_decodeAlmCmd] at hi
  exact Option.some.inj hi ▸ Machine.field_toNat (opData w) 8 8

/-- An end of service comes from a write to `ALM_EOI`. -/
theorem decode_eq_wrAlmEoi {w : OpWord} {id : BitVec 8} (h : decode w = .ok (.wrAlmEoi id)) :
    opRw w = true ∧ opAddr w = 0x050#12 :=
  and_addrMask_eq_iff.mp (followsTable_of_decode h).1

namespace Machine

variable {s t : State}

/-! ### The operations -/

/-- The parts of an alarm's record that its registration alone sets: interval, parameter and repeat flag (R212). -/
def Channel.SameRecord (c d : Channel) : Prop :=
  d.interval = c.interval ∧ d.param = c.param ∧ d.repeating = c.repeating

theorem Channel.SameRecord.refl (c : Channel) : c.SameRecord c := ⟨rfl, rfl, rfl⟩

theorem Channel.SameRecord.trans {c d e : Channel} (hd : c.SameRecord d) (he : d.SameRecord e) : c.SameRecord e := by
  obtain ⟨hinterval, hparam, hrepeating⟩ := hd
  obtain ⟨hinterval', hparam', hrepeating'⟩ := he
  exact ⟨hinterval'.trans hinterval, hparam'.trans hparam, hrepeating'.trans hrepeating⟩

theorem Channel.sameRecord_fireChannel (now : Wide) (c : Channel) : c.SameRecord (fireChannel now c) := by
  rcases fireChannel_cases now c with ⟨-, h⟩ | ⟨-, h⟩ <;> rw [h] <;> exact ⟨rfl, rfl, rfl⟩

theorem Channel.sameRecord_rearmChannel (floor : Word) (now : Wide) (c : Channel) :
    c.SameRecord (rearmChannel floor now c) := by
  rcases rearmChannel_cases floor now c with ⟨-, h⟩ | ⟨-, h⟩ <;> rw [h] <;> exact ⟨rfl, rfl, rfl⟩

theorem Channel.sameRecord_leaveHostService (floor : Word) (now : Wide) (c : Channel) :
    c.SameRecord (leaveHostService floor now c) := by
  rcases leaveHostService_cases floor now c with ⟨-, h⟩ | ⟨-, -, h⟩ | ⟨-, -, h⟩ <;> rw [h]
  · exact .refl c
  · exact ⟨rfl, rfl, rfl⟩
  · exact Channel.sameRecord_rearmChannel floor now { c with insvc := false, rearmOk := false }

/-- Two states agree on the counter, the alarm channels and the command status. -/
structure State.SameAlarms (s t : State) : Prop where
  params : t.params = s.params
  counter : t.counter = s.counter
  channels : t.channels = s.channels
  almStatus : t.almStatus = s.almStatus

theorem State.sameAlarms_groupScan (s : State) : s.SameAlarms (groupScan s) :=
  ⟨groupScan_params s, groupScan_counter s, groupScan_channels s, groupScan_almStatus s⟩

theorem State.modifyChannel_self (s : State) (i : Nat) : s.modifyChannel i (fun c => c) = s :=
  congrArg (fun cs => { s with channels := cs }) (List.modify_id i s.channels)

/-- A command sets the status, and rewrites at most the channel that it names. -/
theorem almCommand_modifies {i : Instr} {effect : State → State} {id : BitVec 8} {f : State → Channel → Channel}
    (hi : commandChannel i = some id) (heffect : ∀ u : State, effect u = u.modifyChannel id.toNat (f u))
    (op act : BitVec 2) (s : State) : ∃ id' v g, commandChannel i = some id'
      ∧ almCommand op act id effect s = (s.setAlmStatus v).modifyChannel id'.toNat g := by
  rcases almCommand_cases op act id effect s with ⟨-, h⟩ | ⟨-, h⟩ <;> rw [h]
  · exact ⟨id, statusOk, f (s.setAlmStatus statusOk), hi, heffect _⟩
  · exact ⟨id, _, fun c => c, hi, (State.modifyChannel_self _ _).symm⟩

/-- What an operation does to the counter, the alarm channels and the command status: nothing; or it is a command, an end of
service, a write of the enables or an acknowledge. -/
theorem exec_alarm_cases {i : Instr} (ht : exec i s = .next t) :
    s.SameAlarms t
      ∨ (∃ id v f, commandChannel i = some id ∧ t = (s.setAlmStatus v).modifyChannel id.toNat f)
      ∨ (∃ id, i = .wrAlmEoi id ∧ t = endOfService id s)
      ∨ (∃ f : Nat → Channel → Channel, (∀ j c, Channel.SameRecord c (f j c)) ∧ t = s.mapChannels f)
      ∨ ∃ mask, t = acknowledge mask s := by
  by_cases hread : Instr.quietRead i = true
  · obtain ⟨v, hv⟩ := exec_of_quietRead hread s
    obtain rfl := answer_eq_next.mp (hv.symm.trans ht)
    exact .inl ⟨rfl, rfl, rfl, rfl⟩
  cases i with
  | wrBtnStageA | wrBtnStageB | wrGrpCfg | wrAlmInterval | wrAlmParam | wrUnmapped =>
    cases ht; exact .inl ⟨rfl, rfl, rfl, rfl⟩
  | wrBtnCmd index en =>
    by_cases hindex : s.params.nbtn ≤ index.toNat
    · rw [exec_wrBtnCmd_of_ge hindex] at ht; cases ht; exact .inl ⟨rfl, rfl, rfl, rfl⟩
    · rw [exec_wrBtnCmd_of_lt (Nat.not_le.mp hindex)] at ht; cases ht; exact .inl ⟨rfl, rfl, rfl, rfl⟩
  | wrGrpScan => cases ht; exact .inl s.sameAlarms_groupScan
  | poll =>
    cases hq : s.evq with
    | nil => rw [exec_poll_of_nil hq] at ht; cases ht; exact .inl ⟨rfl, rfl, rfl, rfl⟩
    | cons e rest => rw [exec_poll_of_cons hq] at ht; cases ht; exact .inl ⟨rfl, rfl, rfl, rfl⟩
  | almClear | almSetOneshot | almSetRepeating =>
    cases ht; exact .inr (.inl (almCommand_modifies rfl (fun _ => rfl) _ _ s))
  | almCmdRsvd id =>
    cases ht
    have hnothing (u : State) : u = u.modifyChannel id.toNat fun c => c := (u.modifyChannel_self _).symm
    exact .inr (.inl (almCommand_modifies rfl (f := fun _ c => c) hnothing _ _ s))
  | wrAlmEoi id => cases ht; exact .inr (.inr (.inl ⟨id, rfl, rfl⟩))
  | wrInte | wrInteSet | wrInteClr =>
    cases ht
    refine .inr (.inr (.inr (.inl ⟨_, ?_, rfl⟩)))
    exact fun _ _ => ⟨rfl, rfl, rfl⟩
  | wrIntr mask => cases ht; exact .inr (.inr (.inr (.inr ⟨mask, rfl⟩)))
  | _ => exact absurd (by simp [Instr.quietRead, encode, encodeRead]) hread

/-! ### The services and `Settle` -/

/-- Two states agree on the elements that no service touches: the parameters, the counter, the command status and the value
that the step's read returns. -/
structure State.SameUnderService (s t : State) : Prop where
  params : t.params = s.params
  counter : t.counter = s.counter
  almStatus : t.almStatus = s.almStatus
  readData : t.readData = s.readData

theorem State.SameUnderService.refl (s : State) : s.SameUnderService s := ⟨rfl, rfl, rfl, rfl⟩

theorem State.SameUnderService.trans {u : State} (ht : s.SameUnderService t) (hu : t.SameUnderService u) :
    s.SameUnderService u :=
  ⟨hu.params.trans ht.params, hu.counter.trans ht.counter, hu.almStatus.trans ht.almStatus, hu.readData.trans ht.readData⟩

theorem sameUnderService_service (i : Nat) (s : State) : s.SameUnderService (service i s) := by
  rcases service_cases i s with ⟨-, h⟩ | ⟨_, -, -, h⟩ | ⟨_, -, -, h⟩ | ⟨_, -, -, h⟩ <;> rw [h]
  · exact .refl s
  · exact ⟨rfl, rfl, rfl, rfl⟩
  · exact ⟨rfl, rfl, rfl, rfl⟩
  · exact ⟨by simp, by simp, by simp, by simp⟩

theorem sameUnderService_acknowledge (mask : BitVec 8) (s : State) : s.SameUnderService (acknowledge mask s) :=
  acknowledge_induct (P := s.SameUnderService) mask (fun u i _ hu _ _ => hu.trans (sameUnderService_service i u)) (.refl s)

theorem sameUnderService_of_settle (ht : settle s = some t) : s.SameUnderService t :=
  settleLoop_induct (P := s.SameUnderService) (fun _ hu => hu.trans ⟨rfl, rfl, rfl, rfl⟩)
    (fun u i _ hu _ _ => hu.trans (sameUnderService_service i u)) (.refl s) ht

/-! ### The counter and the parameters -/

theorem endOfService_params_counter (id : BitVec 8) (s : State) :
    (endOfService id s).params = s.params ∧ (endOfService id s).counter = s.counter := by
  rcases endOfService_cases id s with ⟨-, h⟩ | ⟨-, h⟩ <;> rw [h] <;> exact ⟨rfl, rfl⟩

/-- No operation writes the counter or the parameters. -/
theorem params_counter_of_exec {i : Instr} (ht : exec i s = .next t) : t.params = s.params ∧ t.counter = s.counter := by
  rcases exec_alarm_cases ht with h | ⟨_, _, _, -, rfl⟩ | ⟨id, -, rfl⟩ | ⟨_, -, rfl⟩ | ⟨mask, rfl⟩
  · exact ⟨h.params, h.counter⟩
  · exact ⟨rfl, rfl⟩
  · exact endOfService_params_counter id s
  · exact ⟨rfl, rfl⟩
  · exact ⟨(sameUnderService_acknowledge mask s).params, (sameUnderService_acknowledge mask s).counter⟩

theorem tick_eq_next (ht : tick s = .next t) :
    s.counter.toNat + 1 < Config.wrapLimit ∧ t = { s with counter := s.counter + 1#64 } := by
  rcases tick_cases s with ⟨-, h⟩ | ⟨hlt, h⟩ <;> rw [h] at ht <;> cases ht
  exact ⟨hlt, rfl⟩

theorem params_counter_of_settle (ht : settle s = some t) : t.params = s.params ∧ t.counter = s.counter :=
  ⟨(sameUnderService_of_settle ht).params, (sameUnderService_of_settle ht).counter⟩

theorem nextEnvStep_sameAlarms (s : State) : s.SameAlarms (nextEnvStep s).2 := by
  obtain ⟨rest, n, pins, h⟩ := nextEnvStep_state s
  rw [h]; exact ⟨rfl, rfl, rfl, rfl⟩

/-- Settles O47: the tick and the reset set the counter, no operation does, and the `Settle` leaves it. -/
theorem onlyTicksMoveTheCounter : Obligations.OnlyTicksMoveTheCounter := by
  rintro s t _ rfl ht
  have hbegin := nextEnvStep_sameAlarms s
  rcases step_cases ht with ⟨ha, h⟩ | ⟨w, i, ha, -, h⟩ | ⟨ha, rfl⟩
  · obtain ⟨u, hu, hsettle⟩ := finish_eq_next.mp h
    obtain ⟨-, rfl⟩ := tick_eq_next hu
    obtain ⟨hparams, hcounter⟩ := params_counter_of_settle hsettle
    rw [ha]
    exact ⟨hparams.trans hbegin.params, fun _ => hcounter.trans (congrArg (· + 1#64) hbegin.counter), by simp, by simp⟩
  · obtain ⟨u, hu, hsettle⟩ := finish_eq_next.mp h
    obtain ⟨hparams, hcounter⟩ := params_counter_of_settle hsettle
    obtain ⟨hparams', hcounter'⟩ := params_counter_of_exec hu
    rw [ha]
    exact ⟨(hparams.trans hparams').trans hbegin.params, by simp, by simp,
      fun _ _ => (hcounter.trans hcounter').trans hbegin.counter⟩
  · rw [ha]
    exact ⟨hbegin.params, by simp, fun _ => rfl, by simp⟩

/-! ### The command status -/

/-- An operation that changes the command status is a command or an end of service. -/
theorem almStatus_of_exec {i : Instr} (hcmd : commandChannel i = none) (heoi : ∀ id, i ≠ .wrAlmEoi id)
    (ht : exec i s = .next t) : t.almStatus = s.almStatus := by
  rcases exec_alarm_cases ht with h | ⟨_, _, _, hid, -⟩ | ⟨id, hi, -⟩ | ⟨_, -, rfl⟩ | ⟨mask, rfl⟩
  · exact h.almStatus
  · simp [hcmd] at hid
  · exact absurd hi (heoi id)
  · rfl
  · exact (sameUnderService_acknowledge mask s).almStatus

/-- Settles O50: a command comes from a write to `ALM_CMD`, an end of service from one to `ALM_EOI`; nothing else of a step
changes the status. -/
theorem statusIsSetByCommandsOnly : Obligations.StatusIsSetByCommandsOnly := by
  rintro s t _ rfl ht hreset hother
  rw [← (nextEnvStep_sameAlarms s).almStatus]
  rcases step_cases ht with ⟨-, h⟩ | ⟨w, i, hw, hdecode, h⟩ | ⟨hr, -⟩
  · obtain ⟨u, hu, hsettle⟩ := finish_eq_next.mp h
    obtain ⟨-, rfl⟩ := tick_eq_next hu
    exact (sameUnderService_of_settle hsettle).almStatus
  · obtain ⟨u, hu, hsettle⟩ := finish_eq_next.mp h
    have hcmd : commandChannel i = none := by
      by_contra hsome
      obtain ⟨id, hid⟩ := Option.ne_none_iff_exists'.mp hsome
      obtain ⟨hrw, haddr, -⟩ := decode_command hdecode hid
      exact hother w hw ⟨hrw, .inl haddr⟩
    have heoi : ∀ id, i ≠ .wrAlmEoi id := by
      rintro id rfl
      obtain ⟨hrw, haddr⟩ := decode_eq_wrAlmEoi hdecode
      exact hother w hw ⟨hrw, .inr haddr⟩
    exact (sameUnderService_of_settle hsettle).almStatus.trans (almStatus_of_exec hcmd heoi hu)
  · exact absurd hr hreset

/-! ### The record of an alarm -/

/-- Channel `i` holds the interval, the parameter and the repeat flag of `c`. -/
def State.HoldsRecordOf (i : Nat) (c : Channel) (s : State) : Prop :=
  ∃ d, s.channels[i]? = some d ∧ c.SameRecord d

variable {i : Nat} {c : Channel}

theorem State.HoldsRecordOf.of_channels_eq (h : s.HoldsRecordOf i c) (heq : t.channels = s.channels) :
    t.HoldsRecordOf i c := by
  rw [State.HoldsRecordOf, heq]; exact h

/-- A rewrite of one channel, of another one or of no part of the record. -/
theorem State.HoldsRecordOf.modifyChannel (h : s.HoldsRecordOf i c) {j : Nat} {f : Channel → Channel}
    (hf : j = i → ∀ d, Channel.SameRecord d (f d)) : (s.modifyChannel j f).HoldsRecordOf i c := by
  obtain ⟨d, hd, hrecord⟩ := h
  rw [State.HoldsRecordOf, State.modifyChannel_getElem?, hd]
  split
  · rename_i hj; exact ⟨f d, rfl, hrecord.trans (hf hj d)⟩
  · exact ⟨d, rfl, hrecord⟩

theorem State.HoldsRecordOf.mapChannels (h : s.HoldsRecordOf i c) {f : Nat → Channel → Channel}
    (hf : ∀ j d, Channel.SameRecord d (f j d)) : (s.mapChannels f).HoldsRecordOf i c := by
  obtain ⟨d, hd, hrecord⟩ := h
  exact ⟨f i d, by rw [State.mapChannels_getElem?, hd, Option.map_some], hrecord.trans (hf i d)⟩

theorem State.HoldsRecordOf.fireAll (h : s.HoldsRecordOf i c) : (fireAll s).HoldsRecordOf i c := by
  obtain ⟨d, hd, hrecord⟩ := h
  exact ⟨_, by rw [fireAll_getElem?, hd, Option.map_some], hrecord.trans (d.sameRecord_fireChannel s.counter)⟩

theorem State.HoldsRecordOf.service (h : s.HoldsRecordOf i c) (j : Nat) : (service j s).HoldsRecordOf i c := by
  have hack : (s.modifyChannel j ackChannel).HoldsRecordOf i c := h.modifyChannel fun _ _ => ⟨rfl, rfl, rfl⟩
  rcases service_cases j s with ⟨-, h'⟩ | ⟨_, -, -, h'⟩ | ⟨_, -, -, h'⟩ | ⟨_, -, -, h'⟩ <;> rw [h']
  · exact h
  · exact hack
  · exact hack.modifyChannel fun _ _ => ⟨rfl, rfl, rfl⟩
  · have hscan := hack.of_channels_eq (groupScan_channels (s.modifyChannel j ackChannel))
    exact hscan.modifyChannel fun _ d => d.sameRecord_rearmChannel _ _

theorem State.HoldsRecordOf.acknowledge (h : s.HoldsRecordOf i c) (mask : BitVec 8) :
    (acknowledge mask s).HoldsRecordOf i c :=
  acknowledge_induct mask (fun _ j _ hs _ _ => hs.service j) h

theorem State.HoldsRecordOf.settle (h : s.HoldsRecordOf i c) (ht : settle s = some t) : t.HoldsRecordOf i c :=
  settleLoop_induct (P := State.HoldsRecordOf i c) (fun _ hs => hs.fireAll) (fun _ j _ hs _ _ => hs.service j) h ht

theorem State.HoldsRecordOf.endOfService (h : s.HoldsRecordOf i c) (id : BitVec 8) :
    (endOfService id s).HoldsRecordOf i c := by
  rcases endOfService_cases id s with ⟨-, h'⟩ | ⟨-, h'⟩ <;> rw [h']
  · exact h.of_channels_eq rfl
  · exact (h.of_channels_eq rfl).modifyChannel fun _ d => d.sameRecord_leaveHostService _ _

/-- Of the operations, only a command that names channel `i` changes its record. -/
theorem State.HoldsRecordOf.exec {instr : Instr} (h : s.HoldsRecordOf i c)
    (hother : ∀ id, commandChannel instr = some id → id.toNat ≠ i) (ht : exec instr s = .next t) :
    t.HoldsRecordOf i c := by
  rcases exec_alarm_cases ht with hsame | ⟨id, _, _, hid, rfl⟩ | ⟨id, -, rfl⟩ | ⟨_, hf, rfl⟩ | ⟨mask, rfl⟩
  · exact h.of_channels_eq hsame.channels
  · exact (h.of_channels_eq rfl).modifyChannel fun heq => absurd heq (hother id hid)
  · exact h.endOfService id
  · exact h.mapChannels hf
  · exact h.acknowledge mask

theorem State.HoldsRecordOf.tick (h : s.HoldsRecordOf i c) (ht : tick s = .next t) : t.HoldsRecordOf i c := by
  obtain ⟨-, rfl⟩ := tick_eq_next ht
  exact h.of_channels_eq rfl

/-- Settles O51: the operation of the step is no command that names channel `i`, and the `Settle` fires and rearms only. -/
theorem registrationOwnsTheAlarmRecord : Obligations.RegistrationOwnsTheAlarmRecord := by
  rintro s t _ i c rfl ht hreset hcmd hc
  have hbegin : (nextEnvStep s).2.HoldsRecordOf i c :=
    State.HoldsRecordOf.of_channels_eq ⟨c, hc, .refl c⟩ (nextEnvStep_sameAlarms s).channels
  rcases step_cases ht with ⟨-, h⟩ | ⟨w, instr, hw, hdecode, h⟩ | ⟨hr, -⟩
  · obtain ⟨u, hu, hsettle⟩ := finish_eq_next.mp h
    exact (hbegin.tick hu).settle hsettle
  · obtain ⟨u, hu, hsettle⟩ := finish_eq_next.mp h
    have hother : ∀ id, commandChannel instr = some id → id.toNat ≠ i := by
      rintro id hid rfl
      obtain ⟨hrw, haddr, hindex⟩ := decode_command hdecode hid
      exact hcmd w hw ⟨hrw, haddr, hindex.symm⟩
    exact (hbegin.exec hother hu).settle hsettle
  · exact absurd hr hreset

end Machine
end Sys2Proof
end

section
/-! `Settle` answers (45_interrupt_arbiter.md R246): a channel needs at most three services before its target lies ahead of the
counter, so the rounds of `Settle` suffice for all of them. -/

namespace Sys2Proof.Machine

variable {floor : Word} {now : Wide} {c : Channel}

/-! ### The services that one channel can ask for -/

/-- How many rearms bring an elapsed target past `now`, at most: from `now` itself one, from no more than the floor behind two,
and from anywhere else three. -/
def rearmsToPass (floor : Word) (now target : Wide) : Nat :=
  if target.toNat = now.toNat then 1
  else if target.toNat ≤ now.toNat ∧ now.toNat ≤ target.toNat + floor.toNat then 2 else 3

theorem rearmsToPass_pos (floor : Word) (now target : Wide) : 0 < rearmsToPass floor now target := by
  unfold rearmsToPass
  split_ifs <;> decide

theorem rearmsToPass_le_three (floor : Word) (now target : Wide) : rearmsToPass floor now target ≤ 3 := by
  unfold rearmsToPass
  split_ifs <;> decide

/-- R220: a rearm leaves the target ahead of `now`, or it is the next period, at most the floor behind. -/
theorem rearmTarget_toNat_cases (hfloor : 1 ≤ floor.toNat) (hwrap : now.toNat < Config.wrapLimit) (ival : Word)
    (target : Wide) : now.toNat < (rearmTarget floor ival now target).toNat
      ∨ ((rearmTarget floor ival now target).toNat = (target.toNat + ival.toNat) % 2 ^ 64
          ∧ now.toNat ≤ (rearmTarget floor ival now target).toNat + floor.toNat) := by
  have hfloor_lt := floor.isLt
  unfold Config.wrapLimit at hwrap
  rw [rearmTarget_eq_ofNat floor ival now target rfl, BitVec.toNat_ofNat]
  split <;> omega

/-- An interval is at least the floor, so each rearm that leaves the target elapsed brings it a stage nearer. -/
theorem rearmsToPass_rearmTarget_lt {ival : Word} {target : Wide} (hfloor : 1 ≤ floor.toNat)
    (hwrap : now.toNat < Config.wrapLimit) (hival : floor.toNat ≤ ival.toNat)
    (helapsed : (rearmTarget floor ival now target).toNat ≤ now.toNat) :
    rearmsToPass floor now (rearmTarget floor ival now target) < rearmsToPass floor now target := by
  have hival_lt := ival.isLt
  obtain hahead | ⟨hperiod, hbehind⟩ := rearmTarget_toNat_cases hfloor hwrap ival target
  · omega
  unfold Config.wrapLimit at hwrap
  unfold rearmsToPass
  split_ifs <;> omega

/-- How many services a channel can still ask of a `Settle` at `now`, at most: none if it is neither pending nor due, and
otherwise one for each rearm that its target needs. -/
def Channel.servicesLeft (floor : Word) (now : Wide) (c : Channel) : Nat :=
  if c.action = .scan ∧ (c.intr = true ∨ c.due now = true) then rearmsToPass floor now c.target else 0

theorem servicesLeft_le_three (floor : Word) (now : Wide) (c : Channel) : c.servicesLeft floor now ≤ 3 := by
  unfold Channel.servicesLeft
  split
  · exact rearmsToPass_le_three floor now c.target
  · exact Nat.zero_le 3

/-- A comparator only turns a due channel into a pending one. -/
theorem servicesLeft_fireChannel (floor : Word) (now : Wide) (c : Channel) :
    (fireChannel now c).servicesLeft floor now = c.servicesLeft floor now := by
  rcases fireChannel_cases now c with ⟨hdue, h⟩ | ⟨-, h⟩ <;> rw [h]
  simp [Channel.servicesLeft, hdue]

/-- A service of a pending `SCAN` channel leaves it fewer services to ask for. -/
theorem servicesLeft_rearm_lt (hfloor : 1 ≤ floor.toNat) (hwrap : now.toNat < Config.wrapLimit) (hscan : c.action = .scan)
    (hintr : c.intr = true) (hival : floor.toNat ≤ c.interval.toNat) :
    (rearmChannel floor now (ackChannel c)).servicesLeft floor now < c.servicesLeft floor now := by
  have hbefore : c.servicesLeft floor now = rearmsToPass floor now c.target := if_pos ⟨hscan, .inl hintr⟩
  have hpos := rearmsToPass_pos floor now c.target
  rw [hbefore, Channel.servicesLeft]
  split
  case isFalse => exact hpos
  case isTrue hasks =>
    rcases rearmChannel_cases floor now (ackChannel c) with ⟨-, h⟩ | ⟨-, h⟩ <;> rw [h] at hasks ⊢
    · have hdue : Channel.due now { ackChannel c with
          target := rearmTarget floor c.interval now c.target, armed := true } = true := by simpa [ackChannel] using hasks.2
      exact rearmsToPass_rearmTarget_lt hfloor hwrap hival (BitVec.le_def.mp (Channel.due_eq_true.mp hdue).2)
    · exact absurd hasks.1 (by simp)

/-! ### The services that all channels can ask for -/

/-- A rewrite of one entry that lowers its measure lowers the sum. -/
theorem sum_map_modify_lt {α : Type} {l : List α} {i : Nat} {x : α} {f : α → α} {m : α → Nat} (hx : l[i]? = some x)
    (hlt : m (f x) < m x) : ((l.modify i f).map m).sum < (l.map m).sum := by
  induction l generalizing i with
  | nil => simp at hx
  | cons y l ih =>
    cases i with
    | zero =>
      obtain rfl : y = x := by simpa using hx
      simpa using hlt
    | succ i => simpa using ih (by simpa using hx)

/-- What a `Settle` relies on: the floor is positive, the counter below the wrap region, and every interval of a channel with a
callback at least the floor (45_interrupt_arbiter.md R246). -/
structure State.Settling (s : State) : Prop where
  floor : 1 ≤ s.params.floorUs.toNat
  counter : s.counter.toNat < Config.wrapLimit
  intervals : ∀ c ∈ s.channels, c.action ≠ .none → s.params.floorUs.toNat ≤ c.interval.toNat

/-- The services that the channels can still ask for, together. -/
def State.servicesLeft (s : State) : Nat := (s.channels.map (Channel.servicesLeft s.params.floorUs s.counter)).sum

theorem State.servicesLeft_le (s : State) : s.servicesLeft ≤ 3 * s.channels.length := by
  unfold State.servicesLeft
  have h := List.sum_le_card_nsmul (s.channels.map (Channel.servicesLeft s.params.floorUs s.counter)) 3
    (List.forall_mem_map.mpr fun c _ => servicesLeft_le_three _ _ c)
  simpa [Nat.mul_comm] using h

theorem State.servicesLeft_fireAll (s : State) : (fireAll s).servicesLeft = s.servicesLeft := by
  simp only [State.servicesLeft, fireAll_params, fireAll_counter, fireAll_channels, List.map_map]
  congr 1
  exact List.map_congr_left fun c _ => servicesLeft_fireChannel _ _ c

variable {s : State}

theorem State.Settling.fireAll (h : s.Settling) : (fireAll s).Settling where
  floor := h.floor
  counter := h.counter
  intervals := List.forall_mem_map.mpr fun c hc hne => by
    rcases fireChannel_cases s.counter c with ⟨-, h'⟩ | ⟨-, h'⟩ <;> rw [h'] at hne ⊢ <;> exact h.intervals c hc hne

theorem Channel.action_of_scanRequest (h : c.scanRequest = true) : c.action = .scan := by
  simp only [Channel.scanRequest, Bool.and_eq_true, beq_iff_eq] at h
  exact h.2

/-- R240: the service of a `SCAN` channel, on the channels. -/
theorem service_channels_of_scan {i : Nat} (hc : s.channels[i]? = some c) (hscan : c.action = .scan) :
    (service i s).channels = s.channels.modify i fun d => rearmChannel s.params.floorUs s.counter (ackChannel d) := by
  have hservice : service i s = rearm i (groupScan (s.modifyChannel i ackChannel)) := by simp [service, hc, hscan]
  simp only [hservice, rearm_channels, groupScan_params, groupScan_counter, groupScan_channels, State.modifyChannel_params,
    State.modifyChannel_counter, State.modifyChannel_channels, List.modify_modify_eq]
  rfl

theorem State.Settling.service {i : Nat} (h : s.Settling) (hc : s.channels[i]? = some c) (hscan : c.action = .scan) :
    (service i s).Settling := by
  have hsame := sameUnderService_service i s
  refine ⟨by rw [hsame.params]; exact h.floor, by rw [hsame.counter]; exact h.counter, ?_⟩
  rw [hsame.params, service_channels_of_scan hc hscan]
  refine forall_mem_modify h.intervals fun d _ hd hne => ?_
  rcases rearmChannel_cases s.params.floorUs s.counter (ackChannel d) with ⟨-, h'⟩ | ⟨-, h'⟩ <;> rw [h'] at hne ⊢
  · exact hd hne
  · exact absurd rfl hne

theorem State.Settling.servicesLeft_service_lt {i : Nat} (h : s.Settling) (hc : s.channels[i]? = some c)
    (hreq : c.scanRequest = true) : (Machine.service i s).servicesLeft < s.servicesLeft := by
  have hintr := Channel.intr_of_scanRequest hreq
  have hscan := Channel.action_of_scanRequest hreq
  have hsame := sameUnderService_service i s
  have hival := h.intervals c (List.mem_of_getElem? hc) (by simp [hscan])
  rw [State.servicesLeft, hsame.params, hsame.counter, service_channels_of_scan hc hscan]
  exact sum_map_modify_lt hc (servicesLeft_rearm_lt h.floor h.counter hscan hintr hival)

/-- As many rounds as services can be asked for, and a last one, settle the state. -/
theorem State.Settling.exists_settleLoop {n : Nat} (h : s.Settling) (hn : s.servicesLeft < n) :
    ∃ t, settleLoop n s = some t := by
  induction n generalizing s with
  | zero => exact absurd hn (Nat.not_lt_zero _)
  | succ n ih =>
    rw [settleLoop]
    cases hreq : nextScanRequest (Machine.fireAll s) with
    | none => exact ⟨_, rfl⟩
    | some i =>
      obtain ⟨c, hc, hscanReq⟩ := nextScanRequest_eq_some hreq
      have hfewer := h.fireAll.servicesLeft_service_lt hc hscanReq
      rw [State.servicesLeft_fireAll] at hfewer
      exact ih (h.fireAll.service hc (Channel.action_of_scanRequest hscanReq)) (by omega)

/-- R246: `Settle` answers. -/
theorem State.Settling.exists_settle (h : s.Settling) (hcount : s.channels.length = s.params.nalm) :
    ∃ t, settle s = some t :=
  h.exists_settleLoop (by have := s.servicesLeft_le; omega)

theorem State.Coherent.settling (h : s.Coherent) : s.Settling := by
  obtain ⟨-, -, -, hfloor⟩ := h.params
  refine ⟨hfloor, h.counter, fun c hc => ?_⟩
  obtain ⟨-, -, -, hinterval⟩ := h.channels c hc
  exact hinterval

theorem State.Coherent.exists_settle (h : s.Coherent) : ∃ t, Machine.settle s = some t :=
  h.settling.exists_settle h.channelCount

end Sys2Proof.Machine
end

section
/-! The tick step (44_timer_alarm_scheduler.md R195, R218, R219; 45_interrupt_arbiter.md R240, R245). -/

namespace Sys2Proof.Machine

variable {s t : State} {pins : Word} {rest : List EnvStep} {i : Nat} {c : Channel}

/-- The state that a tick at the pin levels `pins` hands to `Settle`, with `rest` left to be scheduled. -/
def State.ticked (s : State) (pins : Word) (rest : List EnvStep) : State :=
  { s with agenda := rest, pinIn := pins, readData := none, counter := s.counter + 1#64 }

theorem ticked_counter_toNat (hlt : s.counter.toNat + 1 < Config.wrapLimit) (pins : Word) (rest : List EnvStep) :
    (s.ticked pins rest).counter.toNat = s.counter.toNat + 1 := by
  have hadd : (s.counter + 1#64).toNat = s.counter.toNat + 1 := by
    unfold Config.wrapLimit at hlt
    bv_omega
  exact hadd

/-- A scheduled tick below the wrap region. -/
theorem step_of_scheduled_tick (hagenda : s.agenda = { action := .tick, pins := pins } :: rest)
    (hlt : s.counter.toNat + 1 < Config.wrapLimit) : step s = finish (.next (s.ticked pins rest)) := by
  rcases tick_cases (({ s with agenda := rest } : State).begin pins) with ⟨hge, -⟩ | ⟨-, h⟩
  · exact absurd hlt (Nat.not_lt.mpr hge)
  · exact (step_of_agenda_cons hagenda).trans (congrArg finish h)

theorem State.Coherent.ticked (h : s.Coherent) (hlt : s.counter.toNat + 1 < Config.wrapLimit) (pins : Word)
    (rest : List EnvStep) : (s.ticked pins rest).Coherent :=
  { h with counter := ticked_counter_toNat hlt pins rest ▸ hlt }

/-- A tick below the wrap region is answered by the `Settle` after it. -/
theorem exists_step_of_scheduled_tick (hs : s.inv) (hagenda : s.agenda = { action := .tick, pins := pins } :: rest)
    (hlt : s.counter.toNat + 1 < Config.wrapLimit) :
    ∃ t, step s = .next t ∧ settle (s.ticked pins rest) = some t := by
  obtain ⟨hcoherent, -⟩ := State.inv_iff_coherent.mp hs
  obtain ⟨t, ht⟩ := (hcoherent.ticked hlt pins rest).exists_settle
  exact ⟨t, (step_of_scheduled_tick hagenda hlt).trans (finish_eq_next.mpr ⟨_, rfl, ht⟩), ht⟩

/-- Settles O39: the `Settle` after the tick answers, and leaves the counter. -/
theorem tickAdvancesTheCounter : Obligations.TickAdvancesTheCounter := by
  intro s pins rest hs hagenda hlt
  obtain ⟨t, hstep, hsettle⟩ := exists_step_of_scheduled_tick hs hagenda hlt
  refine ⟨t, hstep, ?_, hsettle⟩
  rw [(sameUnderService_of_settle hsettle).counter, ticked_counter_toNat hlt]

/-! ### A `HOST` channel -/

theorem fireChannel_action (now : Wide) (c : Channel) : (fireChannel now c).action = c.action := by
  rcases fireChannel_cases now c with ⟨-, h⟩ | ⟨-, h⟩ <;> rw [h]

/-- The service of a `SCAN` channel leaves every other channel. -/
theorem service_getElem?_of_ne {j : Nat} {d : Channel} (hd : s.channels[j]? = some d) (hscan : d.action = .scan)
    (hne : j ≠ i) : (service j s).channels[i]? = s.channels[i]? := by
  simp only [service_channels_of_scan hd hscan, List.getElem?_modify, if_neg hne, Option.map_eq_map, Option.map_id']

/-- At the instant `now`, channel `i` is `c` or what its comparator leaves of `c`. -/
def State.HoldsComparedTo (now : Wide) (i : Nat) (c : Channel) (s : State) : Prop :=
  s.counter = now ∧ (s.channels[i]? = some c ∨ s.channels[i]? = some (fireChannel now c))

theorem State.HoldsComparedTo.fireAll {now : Wide} (h : s.HoldsComparedTo now i c) :
    (fireAll s).HoldsComparedTo now i c := by
  obtain ⟨rfl, h | h⟩ := h
  · exact ⟨rfl, .inr (by rw [fireAll_getElem?, h, Option.map_some])⟩
  · exact ⟨rfl, .inr (by rw [fireAll_getElem?, h, Option.map_some, fireChannel_fireChannel])⟩

theorem State.HoldsComparedTo.service {now : Wide} (h : s.HoldsComparedTo now i c) (hne : c.action ≠ .scan) {j : Nat}
    {d : Channel} (hd : s.channels[j]? = some d) (hscan : d.action = .scan) : (service j s).HoldsComparedTo now i c := by
  obtain ⟨hcounter, h⟩ := h
  have hother : j ≠ i := by
    rintro rfl
    rcases h with h | h <;> obtain rfl := Option.some.inj (hd.symm.trans h)
    · exact hne hscan
    · exact hne ((fireChannel_action _ _).symm.trans hscan)
  rw [State.HoldsComparedTo, (sameUnderService_service j s).counter, service_getElem?_of_ne hd hscan hother]
  exact ⟨hcounter, h⟩

/-- Of a channel that is no `SCAN` channel, `Settle` runs the comparator and nothing else. -/
theorem settle_getElem?_of_not_scan (hc : s.channels[i]? = some c) (hne : c.action ≠ .scan) (ht : settle s = some t) :
    t.channels[i]? = some (fireChannel s.counter c) := by
  have hstart : s.HoldsComparedTo s.counter i c := ⟨rfl, .inl hc⟩
  have hend : t.HoldsComparedTo s.counter i c :=
    settleLoop_induct (fun _ hu => hu.fireAll)
      (fun _ _ _ hu hd hreq => hu.service hne hd (Channel.action_of_scanRequest hreq)) hstart ht
  obtain ⟨hcounter, h | h⟩ := hend
  · obtain ⟨hdue, -⟩ := settled_of_settle ht c (List.mem_of_getElem? h)
    rw [h, fireChannel_of_not_due (hcounter ▸ hdue)]
  · exact h

theorem Channel.intr_eq_false_of_armed {floor : Word} (hc : c.inv floor) (harmed : c.armed = true) : c.intr = false := by
  obtain ⟨-, hpending, -⟩ := hc
  by_contra h
  obtain ⟨-, hdisarmed⟩ := hpending (by simpa using h)
  exact absurd harmed (by simp [hdisarmed])

/-- Settles O53: of a `HOST` channel the `Settle` runs the comparator, and an armed channel is not pending before it. -/
theorem hostAlarmFiresAtItsTarget : Obligations.HostAlarmFiresAtItsTarget := by
  intro s pins rest i c hs hagenda hlt hc harmed hhost
  obtain ⟨t, hstep, hsettle⟩ := exists_step_of_scheduled_tick hs hagenda hlt
  have hnow := ticked_counter_toNat hlt pins rest
  have hchannel := settle_getElem?_of_not_scan (s := s.ticked pins rest) hc (by simp [hhost]) hsettle
  simp only [fireChannel_eq_ite, hnow, harmed, true_and] at hchannel
  have hintr : c.intr = false :=
    Channel.intr_eq_false_of_armed ((State.inv_iff_coherent.mp hs).1.channels c (List.mem_of_getElem? hc)) harmed
  refine ⟨t, hstep, hchannel, ?_⟩
  rw [State.irq_of_getElem? hchannel]
  split
  · rename_i hreached; simp [Channel.irq, Channel.requesting, hhost, hreached]
  · rename_i hahead; simp [Channel.irq, Channel.requesting, hintr, hahead]

/-! ### A `SCAN` channel -/

theorem groupScan_withChannels (s : State) (cs : List Channel) :
    groupScan { s with channels := cs } = { groupScan s with channels := cs } := by
  unfold groupScan
  split <;> rfl

theorem settleLoop_of_settled (h : s.settled) (n : Nat) : settleLoop (n + 1) s = some s := by
  have hnone : nextScanRequest s = none := nextScanRequest_eq_none.mpr fun c hc => (h c hc).2
  simp only [settleLoop, fireAll_of_settled h, hnone]

/-- The comparators, where only that of channel `i` matches. -/
theorem fireAll_of_one_due (hc : s.channels[i]? = some c) (hdue : c.due s.counter = true)
    (hothers : ∀ j d, j ≠ i → s.channels[j]? = some d → d.due s.counter = false) :
    fireAll s = { s with channels := s.channels.set i { c with intr := true, armed := false } } := by
  have hchannels : s.channels.map (fireChannel s.counter) = s.channels.set i { c with intr := true, armed := false } := by
    obtain ⟨hlt, -⟩ := List.getElem?_eq_some_iff.mp hc
    apply List.ext_getElem?
    intro j
    rw [List.getElem?_map]
    by_cases hj : j = i
    · subst hj
      rw [hc, List.getElem?_set_self hlt, Option.map_some, fireChannel_of_due hdue]
    · rw [List.getElem?_set_ne (Ne.symm hj)]
      cases hd : s.channels[j]? with
      | none => rfl
      | some d => rw [Option.map_some, fireChannel_of_not_due (hothers j d hj hd)]
  rw [fireAll, hchannels]

theorem nextScanRequest_of_one (hc : s.channels[i]? = some c) (hreq : c.scanRequest = true)
    (hothers : ∀ j d, j ≠ i → s.channels[j]? = some d → d.scanRequest = false) : nextScanRequest s = some i := by
  cases hnext : nextScanRequest s with
  | none =>
    have hquiet := nextScanRequest_eq_none.mp hnext c (List.mem_of_getElem? hc)
    exact absurd hreq (by simp [hquiet])
  | some j =>
    obtain ⟨d, hd, hdreq⟩ := nextScanRequest_eq_some hnext
    by_contra hne
    have hj : j ≠ i := fun h => hne (congrArg some h)
    exact absurd hdreq (by simp [hothers j d hj hd])

/-- What the fire and the service of a `SCAN` channel leave of it (R219, R220). -/
def rearmedAfterScan (c : Channel) : Channel :=
  if c.repeating then { c with target := BitVec.ofNat 64 (c.target.toNat + c.interval.toNat) }
  else { c with action := .none, armed := false, inte := false }

/-- A fire, the acknowledge and the rearm at the instant of the target. -/
theorem rearmChannel_of_fired {floor : Word} (harmed : c.armed = true) (hintr : c.intr = false)
    (hwrap : c.target.toNat < Config.wrapLimit) (hival : 1 ≤ c.interval.toNat) :
    rearmChannel floor c.target (ackChannel { c with intr := true, armed := false }) = rearmedAfterScan c := by
  have htarget : rearmTarget floor c.interval c.target c.target = BitVec.ofNat 64 (c.target.toNat + c.interval.toNat) :=
    rearmTarget_of_in_time hwrap le_rfl (by omega) floor
  cases c
  simp_all [rearmChannel, ackChannel, rearmedAfterScan]

theorem rearmedAfterScan_not_due (harmed : c.armed = true) (hwrap : c.target.toNat < Config.wrapLimit)
    (hival : 1 ≤ c.interval.toNat) : (rearmedAfterScan c).due c.target = false := by
  have hlt := add_interval_lt hwrap le_rfl c.interval
  unfold rearmedAfterScan
  split
  · have hnext : (BitVec.ofNat 64 (c.target.toNat + c.interval.toNat)).toNat = c.target.toNat + c.interval.toNat := by
      rw [BitVec.toNat_ofNat, Nat.mod_eq_of_lt hlt]
    simp only [Channel.due, harmed, Bool.true_and, decide_eq_false_iff_not, BitVec.le_def, hnext]
    omega
  · simp [Channel.due]

theorem rearmedAfterScan_not_scanRequest (hintr : c.intr = false) : (rearmedAfterScan c).scanRequest = false := by
  unfold rearmedAfterScan
  split <;> simp [Channel.scanRequest, Channel.requesting, hintr]

/-- The service of a `SCAN` channel as a whole: a group scan, and the channel acknowledged and rearmed. -/
theorem service_eq_of_scan (hc : s.channels[i]? = some c) (hscan : c.action = .scan) :
    service i s = { groupScan s with
      channels := s.channels.set i (rearmChannel s.params.floorUs s.counter (ackChannel c)) } := by
  have hchannels := service_channels_of_scan hc hscan
  have hservice : service i s = rearm i (groupScan (s.modifyChannel i ackChannel)) := by simp [service, hc, hscan]
  rw [modify_eq_set hc] at hchannels
  rw [← hchannels, hservice, State.modifyChannel, groupScan_withChannels]
  rfl

/-- Where one enabled `SCAN` channel alone is due, `Settle` fires it and services it once (R245). -/
theorem settleLoop_of_one_scan (hc : s.channels[i]? = some c) (hdue : c.due s.counter = true) (hscan : c.action = .scan)
    (hinte : c.inte = true)
    (hothers : ∀ j d, j ≠ i → s.channels[j]? = some d → d.due s.counter = false ∧ d.scanRequest = false) (n : Nat) :
    settleLoop (n + 1) s = settleLoop n { groupScan s with
      channels := s.channels.set i
        (rearmChannel s.params.floorUs s.counter (ackChannel { c with intr := true, armed := false })) } := by
  obtain ⟨hlt, -⟩ := List.getElem?_eq_some_iff.mp hc
  have hfire := fireAll_of_one_due hc hdue fun j d hj hd => (hothers j d hj hd).1
  have hfired : (fireAll s).channels[i]? = some { c with intr := true, armed := false } := by
    rw [hfire, List.getElem?_set_self hlt]
  have hnext : nextScanRequest (fireAll s) = some i := by
    refine nextScanRequest_of_one hfired (by simp [Channel.scanRequest, Channel.requesting, hinte, hscan]) fun j d hj hd => ?_
    rw [hfire, List.getElem?_set_ne (Ne.symm hj)] at hd
    exact (hothers j d hj hd).2
  rw [settleLoop, hnext]
  dsimp only
  rw [service_eq_of_scan hfired hscan, hfire, groupScan_withChannels, List.set_set]

/-- After the scan of a `SCAN` channel at its target nothing is due: its own target lies ahead, or it is free. -/
theorem settled_of_rearmedAfterScan (hcounter : s.counter = c.target) (harmed : c.armed = true) (hintr : c.intr = false)
    (hwrap : c.target.toNat < Config.wrapLimit) (hival : 1 ≤ c.interval.toNat) {cs : List Channel}
    (hchannels : s.channels = cs.set i (rearmedAfterScan c))
    (hothers : ∀ j d, j ≠ i → cs[j]? = some d → d.due c.target = false ∧ d.scanRequest = false) : s.settled := by
  intro d hd
  obtain ⟨j, hj⟩ := List.mem_iff_getElem?.mp hd
  rw [hchannels] at hj
  rw [hcounter]
  by_cases hi : j = i
  · subst hi
    obtain ⟨hlt, -⟩ := List.getElem?_eq_some_iff.mp hj
    rw [List.getElem?_set_self (List.length_set ▸ hlt)] at hj
    obtain rfl := Option.some.inj hj
    exact ⟨rearmedAfterScan_not_due harmed hwrap hival, rearmedAfterScan_not_scanRequest hintr⟩
  · rw [List.getElem?_set_ne (Ne.symm hi)] at hj
    exact hothers j d hi hj

/-- Settles O54: the first round of `Settle` fires and services the channel, whose target is then ahead, and the second finds
nothing to do. -/
theorem scanAlarmScansAtItsTarget : Obligations.ScanAlarmScansAtItsTarget := by
  intro s pins rest i c hs hagenda hlt hc harmed hscan hinte htarget hothers
  obtain ⟨hcoherent, hsettled⟩ := State.inv_iff_coherent.mp hs
  have hinv := hcoherent.channels c (List.mem_of_getElem? hc)
  have hintr := Channel.intr_eq_false_of_armed hinv harmed
  have hnow : (s.ticked pins rest).counter = c.target := htarget.symm
  have hwrap : c.target.toNat < Config.wrapLimit := hnow ▸ (hcoherent.ticked hlt pins rest).counter
  have hival : 1 ≤ c.interval.toNat := by
    obtain ⟨-, -, -, hfloor⟩ := hinv
    exact hcoherent.settling.floor.trans (hfloor (by simp [hscan]))
  have hquiet : ∀ j d, j ≠ i → s.channels[j]? = some d → d.due c.target = false ∧ d.scanRequest = false := by
    intro j d hj hd
    obtain ⟨-, hquiet⟩ := hsettled d (List.mem_of_getElem? hd)
    exact ⟨htarget ▸ hothers j d hj hd, hquiet⟩
  have hdue : c.due (s.ticked pins rest).counter = true := Channel.due_eq_true.mpr ⟨harmed, BitVec.le_of_eq htarget⟩
  have hround := settleLoop_of_one_scan (s := s.ticked pins rest) hc hdue hscan hinte (hnow ▸ hquiet)
  rw [hnow, rearmChannel_of_fired harmed hintr hwrap hival] at hround
  have hafter : ({ groupScan (s.ticked pins rest) with
      channels := s.channels.set i (rearmedAfterScan c) } : State).settled :=
    settled_of_rearmedAfterScan ((groupScan_counter _).trans hnow) harmed hintr hwrap hival rfl hquiet
  obtain ⟨-, ⟨hnalm, -⟩, -⟩ := hcoherent.params
  obtain ⟨n, hn⟩ : ∃ n, 3 * s.params.nalm = n + 1 := ⟨3 * s.params.nalm - 1, by omega⟩
  have hsettle : settle (s.ticked pins rest) = some { groupScan (s.ticked pins rest) with
      channels := s.channels.set i (rearmedAfterScan c) } := by
    rw [← settleLoop_of_settled hafter n, ← hn]
    exact hround _
  exact (step_of_scheduled_tick hagenda hlt).trans (finish_eq_next.mpr ⟨_, rfl, hsettle⟩)

end Sys2Proof.Machine
end

section
/-! The clock read on the block (44_timer_alarm_scheduler.md R198, R199; 30_encoding.md R112). -/

namespace Sys2Proof.Machine

variable {s t : State}

theorem takeSteps_cons_eq_next {e : EnvStep} {es : List EnvStep} :
    takeSteps (e :: es) s = .next t ↔ ∃ u, runStep e.action (s.begin e.pins) = .next u ∧ takeSteps es u = .next t := by
  cases h : runStep e.action (s.begin e.pins) <;> simp [takeSteps, h]

/-- A transaction that is answered runs an operation. -/
theorem access_eq_next {size : Nat} {w : OpWord} (ht : access size w s = .next t) :
    ∃ i, finish (exec i s) = .next t := by
  unfold access at ht
  split at ht
  · exact ⟨_, ht⟩
  · cases ht

/-- R199: no step but a reset moves the counter back. -/
theorem counter_le_of_runStep {a : EnvAction} (ha : a ≠ .reset) (ht : runStep a s = .next t) : s.counter ≤ t.counter := by
  cases a with
  | tick =>
    obtain ⟨u, hu, hsettle⟩ := finish_eq_next.mp ht
    obtain ⟨hlt, rfl⟩ := tick_eq_next hu
    rw [(sameUnderService_of_settle hsettle).counter]
    unfold Config.wrapLimit at hlt
    bv_omega
  | access size w =>
    obtain ⟨i, hi⟩ := access_eq_next ht
    obtain ⟨u, hu, hsettle⟩ := finish_eq_next.mp hi
    rw [(sameUnderService_of_settle hsettle).counter, (params_counter_of_exec hu).2]
    exact BitVec.le_refl _
  | reset => exact absurd rfl ha

theorem counter_le_of_takeSteps {es : List EnvStep} (hes : ∀ e ∈ es, e.action ≠ .reset) (ht : takeSteps es s = .next t) :
    s.counter ≤ t.counter := by
  induction es generalizing s with
  | nil => cases ht; exact BitVec.le_refl _
  | cons e es ih =>
    obtain ⟨u, hu, hrest⟩ := takeSteps_cons_eq_next.mp ht
    have hfirst : s.counter ≤ u.counter := counter_le_of_runStep (s := s.begin e.pins) (hes e List.mem_cons_self) hu
    exact BitVec.le_trans hfirst (ih (fun e' he' => hes e' (List.mem_cons_of_mem e he')) hrest)

/-- A read that the host issues returns its answer, and leaves the counter. -/
theorem hostIssues_of_answer {i : Instr} {v : Word} (hdecode : decode (encode i) = .ok i)
    (hexec : exec i (s.begin s.pinIn) = answer v (s.begin s.pinIn)) (ht : hostIssues i s = .next t) :
    t.readData = some v ∧ t.counter = s.counter := by
  rw [hostIssues, access_four_of_decode hdecode, hexec] at ht
  obtain ⟨u, hu, hsettle⟩ := finish_eq_next.mp ht
  obtain rfl := answer_eq_next.mp hu
  have hsame := sameUnderService_of_settle hsettle
  exact ⟨hsame.readData, hsame.counter⟩

theorem hostIssues_rdTimehr (ht : hostIssues .rdTimehr s = .next t) :
    t.readData = some (hiHalf s.counter) ∧ t.counter = s.counter := hostIssues_of_answer rfl (exec_rdTimehr _) ht

theorem hostIssues_rdTimelr (ht : hostIssues .rdTimelr s = .next t) :
    t.readData = some (loHalf s.counter) ∧ t.counter = s.counter := hostIssues_of_answer rfl (exec_rdTimelr _) ht

theorem resume_low_of_result {hi1 lo hi2 : Word} {v : Wide} (h : clockReadResult hi1 lo hi2 = some v) :
    (ClockReading.low hi1 lo).resume hi2 = .done v := by simp [ClockReading.resume, h]

/-- Settles O60: the three reads return the halves of the counter at their instants, which are in order, so O24 says what the
pass gives. -/
theorem clockReadLoopsUntilTheHalvesAgree : Obligations.ClockReadLoopsUntilTheHalvesAgree := by
  intro s a1 t1 a2 t2 a3 t3 g1 g2 g3 rest hgaps ha1 ht1 ha2 ht2 ha3 ht3
  obtain ⟨hread1, hcounter1⟩ := hostIssues_rdTimehr ht1
  obtain ⟨hread2, hcounter2⟩ := hostIssues_rdTimelr ht2
  obtain ⟨hread3, -⟩ := hostIssues_rdTimehr ht3
  have h12 : a1.counter ≤ a2.counter :=
    hcounter1 ▸ counter_le_of_takeSteps (fun e he => hgaps e (List.mem_append_left g3 he)) ha2
  have h23 : a2.counter ≤ a3.counter :=
    hcounter2 ▸ counter_le_of_takeSteps (fun e he => hgaps e (List.mem_append_right g2 he)) ha3
  obtain ⟨hagree, -⟩ := clockReadReturnsTheCounter a1.counter a2.counter a3.counter h12 h23
  have hpass : clockReadLoop (g1 :: g2 :: g3 :: rest) .start s
      = clockReadLoop rest ((ClockReading.low (hiHalf a1.counter) (loHalf a2.counter)).resume (hiHalf a3.counter)) t3 := by
    rw [clockReadLoop_cons _ rfl ha1 ht1, hread1, clockReadLoop_cons _ rfl ha2 ht2, hread2,
      clockReadLoop_cons _ rfl ha3 ht3, hread3]
    rfl
  rw [hpass]
  split
  · rename_i hsame; rw [resume_low_of_result (hagree hsame), clockReadLoop_done]
  · rename_i hne; rw [resume_low_of_ne _ hne]

end Sys2Proof.Machine
end

section
/-! The bit masks (45_interrupt_arbiter.md R231, R233 to R238; 44_timer_alarm_scheduler.md R229): a read answers one bit of
every channel or button, a write of the enables goes bit by bit. -/

namespace Sys2Proof.Machine

variable {s : State}

theorem exec_rdArmed (s : State) : exec .rdArmed s = answer (channelMask Channel.armed s) s := rfl

theorem exec_rdIntr (s : State) : exec .rdIntr s = answer (channelMask Channel.intr s) s := rfl

theorem exec_rdInte (s : State) : exec .rdInte s = answer (channelMask Channel.inte s) s := rfl

theorem exec_rdInts (s : State) : exec .rdInts s = answer (channelMask (fun c => c.intr && c.inte) s) s :=
  congrArg (answer · s) (channelMask_and Channel.intr Channel.inte s)

theorem exec_rdInsvc (s : State) : exec .rdInsvc s = answer (channelMask Channel.insvc s) s := rfl

theorem exec_rdBtnEn (s : State) : exec .rdBtnEn s = answer (enableMask s) s := rfl

/-- A read that answers a bit mask returns the bits of its entries, and 0 above them. -/
theorem exists_bits_of_answer_bitmask {i : Instr} {bs : List Bool} (h : exec i s = answer (bitmask bs) s) :
    ∃ v : Word, exec i s = .next { s with readData := some v } ∧ ∀ k, k < 32 → v.getLsbD k = bs[k]?.getD false := by
  refine ⟨bitmask bs, h, fun k hk => ?_⟩
  rw [bitmask_getLsbD, decide_eq_true hk, Bool.true_and]

/-- Settles O27: each of the six reads answers the bit mask of its list. -/
theorem bitMaskRegisters : Obligations.BitMaskRegisters := by
  intro s
  refine ⟨⟨rfl, rfl, rfl, rfl, rfl, rfl⟩, ?_⟩
  simp only [List.forall_mem_cons]
  exact ⟨exists_bits_of_answer_bitmask (exec_rdArmed s), exists_bits_of_answer_bitmask (exec_rdIntr s),
    exists_bits_of_answer_bitmask (exec_rdInte s), exists_bits_of_answer_bitmask (exec_rdInts s),
    exists_bits_of_answer_bitmask (exec_rdInsvc s), exists_bits_of_answer_bitmask (exec_rdBtnEn s), by simp⟩

theorem exec_wrInte (s : State) (mask : BitVec 8) :
    exec (.wrInte mask) s = .next (s.mapChannels fun i c => { c with inte := mask.getLsbD i }) := rfl

theorem exec_wrInteSet (s : State) (mask : BitVec 8) :
    exec (.wrInteSet mask) s = .next (s.mapChannels fun i c => { c with inte := c.inte || mask.getLsbD i }) := rfl

theorem exec_wrInteClr (s : State) (mask : BitVec 8) :
    exec (.wrInteClr mask) s = .next (s.mapChannels fun i c => { c with inte := c.inte && !mask.getLsbD i }) := rfl

/-- R234: a bit set at a mask bit of 0 leaves the channel. -/
theorem setEnable_eq_ite (c : Channel) (b : Bool) :
    { c with inte := c.inte || b } = if b then { c with inte := true } else c := by
  cases b <;> simp

/-- R235: a bit clear at a mask bit of 0 leaves the channel. -/
theorem clearEnable_eq_ite (c : Channel) (b : Bool) :
    { c with inte := c.inte && !b } = if b then { c with inte := false } else c := by
  cases b <;> simp

/-- A read of an address that the map does not list as readable. -/
theorem decode_packOp_read_unmapped {a : Addr} (halign : wordAligned a = true) (hnamed : namedRead a = false) (d : Word) :
    decode (packOp false a d) = .ok (.rdUnmapped a) :=
  (decode_packOp_read halign d).trans (congrArg Except.ok (decodeRead_of_not_namedRead hnamed))

/-- Settles O34: the three writes channel by channel; the aliases are listed as writable only. -/
theorem enableMaskWrites : Obligations.EnableMaskWrites := by
  intro s mask
  refine ⟨⟨rfl, rfl, rfl⟩, exec_wrInte s mask, ?set, ?clear, fun d => ?aliases⟩
  case set => simp only [exec_wrInteSet, setEnable_eq_ite]; rfl
  case clear => simp only [exec_wrInteClr, clearEnable_eq_ite]; rfl
  case aliases =>
    exact ⟨decode_packOp_read_unmapped (by decide) (by decide) d, decode_packOp_read_unmapped (by decide) (by decide) d⟩

end Sys2Proof.Machine
end

section
/-! The service of a pending channel, and the acknowledge as one rewrite of the channels beside its group scans
(45_interrupt_arbiter.md R232, R240). -/

namespace Sys2Proof.Machine

variable {s t : State} {i : Nat} {c : Channel} {mask : BitVec 8}

/-- What a service leaves of its channel (R240): the acknowledge, then the callback of the channel's action. -/
def servicedChannel (floor : Word) (now : Wide) (c : Channel) : Channel :=
  match c.action with
  | .none => ackChannel c
  | .host => enterHostService (ackChannel c)
  | .scan => rearmChannel floor now (ackChannel c)

/-- How many group scans the service of a channel runs. -/
def serviceScans (c : Channel) : Nat := if c.action = .scan then 1 else 0

/-- The scan reads and writes no channel. -/
theorem iterate_groupScan_withChannels (n : Nat) (s : State) (cs : List Channel) :
    groupScan^[n] { s with channels := cs } = { groupScan^[n] s with channels := cs } := by
  induction n generalizing s with
  | zero => rfl
  | succ n ih => rw [Function.iterate_succ_apply, Function.iterate_succ_apply, groupScan_withChannels, ih]

theorem sameAlarms_iterate_groupScan (n : Nat) (s : State) : s.SameAlarms (groupScan^[n] s) := by
  induction n with
  | zero => exact ⟨rfl, rfl, rfl, rfl⟩
  | succ n ih =>
    rw [Function.iterate_succ_apply']
    have hscan := State.sameAlarms_groupScan (groupScan^[n] s)
    exact ⟨hscan.params.trans ih.params, hscan.counter.trans ih.counter, hscan.channels.trans ih.channels,
      hscan.almStatus.trans ih.almStatus⟩

/-- R240: a service rewrites its own channel, and scans the group for a `SCAN` channel. -/
theorem service_eq (hc : s.channels[i]? = some c) :
    service i s = { groupScan^[serviceScans c] s with
      channels := s.channels.set i (servicedChannel s.params.floorUs s.counter c) } := by
  cases haction : c.action with
  | none =>
    have hservice : service i s = s.modifyChannel i ackChannel := by simp [service, hc, haction]
    rw [hservice, State.modifyChannel, modify_eq_set hc, serviceScans, servicedChannel, haction]
    rfl
  | host =>
    have hservice : service i s = (s.modifyChannel i ackChannel).modifyChannel i enterHostService := by
      simp [service, hc, haction]
    rw [hservice, State.modifyChannel, State.modifyChannel_channels, List.modify_modify_eq, modify_eq_set hc, serviceScans,
      servicedChannel, haction]
    rfl
  | scan =>
    rw [service_eq_of_scan hc haction, serviceScans, servicedChannel, haction]
    rfl

/-- A service leaves every other channel. -/
theorem service_getElem?_of_other {j : Nat} (hj : j ≠ i) : (service j s).channels[i]? = s.channels[i]? := by
  cases hd : s.channels[j]? with
  | none => rw [service, hd]
  | some d => rw [service_eq hd, List.getElem?_set_ne hj]

/-- An acknowledge leaves a channel that is not pending. -/
theorem acknowledge_getElem?_of_not_pending (hc : s.channels[i]? = some c) (hintr : c.intr = false) :
    (acknowledge mask s).channels[i]? = some c := by
  refine acknowledge_induct (P := fun u => u.channels[i]? = some c) mask (fun u j d hu hd hpending => ?_) hc
  have hj : j ≠ i := by
    rintro rfl
    obtain rfl := Option.some.inj (hu.symm.trans hd)
    simp [hintr] at hpending
  rw [service_getElem?_of_other hj, hu]

theorem acknowledgedChannel_of_serviced (h : mask.getLsbD i = true ∧ c.intr = true) (floor : Word) (now : Wide) :
    acknowledgedChannel floor now mask i c = servicedChannel floor now c := by
  rw [acknowledgedChannel, if_pos h]
  cases c with
  | mk _ _ _ _ action => cases action <;> rfl

/-- The channels that `acknowledgedScans` counts, each with its index. -/
def acknowledgeScans (mask : BitVec 8) (p : Channel × Nat) : Bool := mask.getLsbD p.2 && p.1.intr && p.1.action == .scan

/-- R232: one channel of an acknowledge. -/
theorem acknowledgeOne_eq (hc : s.channels[i]? = some c) :
    acknowledgeOne mask s i = { groupScan^[(acknowledgeScans mask (c, i)).toNat] s with
      channels := s.channels.set i (acknowledgedChannel s.params.floorUs s.counter mask i c) } := by
  obtain ⟨hlt, hget⟩ := List.getElem?_eq_some_iff.mp hc
  by_cases h : mask.getLsbD i = true ∧ c.intr = true
  · have hscans : (acknowledgeScans mask (c, i)).toNat = serviceScans c := by
      cases haction : c.action <;> simp [acknowledgeScans, serviceScans, h, haction]
    rw [hscans, acknowledgedChannel_of_serviced h, ← service_eq hc]
    simp [acknowledgeOne, hc, h]
  · have hscans : acknowledgeScans mask (c, i) = false := by
      simp only [acknowledgeScans, Bool.and_eq_false_imp, Bool.and_eq_true]
      exact fun hboth => absurd hboth h
    have hone : acknowledgeOne mask s i = s := by
      rcases acknowledgeOne_cases mask s i with hsame | ⟨d, hd, hmask, hpending, -⟩
      · exact hsame
      · obtain rfl := Option.some.inj (hc.symm.trans hd)
        exact absurd ⟨hmask, hpending⟩ h
    rw [hone, hscans, acknowledgedChannel, if_neg h, ← hget, List.set_getElem_self]
    rfl

/-- What an acknowledge has left of channel `i` when it comes to channel `k`. -/
def acknowledgedBelow (floor : Word) (now : Wide) (mask : BitVec 8) (k i : Nat) (c : Channel) : Channel :=
  if i < k then acknowledgedChannel floor now mask i c else c

theorem acknowledgedBelow_of_lt {k : Nat} (h : i < k) (floor : Word) (now : Wide) :
    acknowledgedBelow floor now mask k i c = acknowledgedChannel floor now mask i c := if_pos h

theorem acknowledgedBelow_of_le {k : Nat} (h : k ≤ i) (floor : Word) (now : Wide) :
    acknowledgedBelow floor now mask k i c = c := if_neg (Nat.not_lt.mpr h)

theorem mapIdx_acknowledgedBelow_zero (cs : List Channel) (floor : Word) (now : Wide) :
    cs.mapIdx (acknowledgedBelow floor now mask 0) = cs := by
  apply List.ext_getElem?
  intro j
  rw [List.getElem?_mapIdx]
  cases cs[j]? with
  | none => rfl
  | some d => rw [Option.map_some, acknowledgedBelow_of_le (Nat.zero_le j)]

theorem mapIdx_acknowledgedBelow_succ {k : Nat} {cs : List Channel} (hc : cs[k]? = some c) (floor : Word) (now : Wide) :
    (cs.mapIdx (acknowledgedBelow floor now mask k)).set k (acknowledgedChannel floor now mask k c)
      = cs.mapIdx (acknowledgedBelow floor now mask (k + 1)) := by
  obtain ⟨hlt, -⟩ := List.getElem?_eq_some_iff.mp hc
  apply List.ext_getElem?
  intro j
  by_cases hj : j = k
  · subst hj
    rw [List.getElem?_set_self (by simpa using hlt), List.getElem?_mapIdx, hc, Option.map_some,
      acknowledgedBelow_of_lt (Nat.lt_succ_self j)]
  · have hbelow : acknowledgedBelow floor now mask (k + 1) j = acknowledgedBelow floor now mask k j := by
      have hiff : j < k + 1 ↔ j < k := by omega
      funext d
      rw [acknowledgedBelow, acknowledgedBelow, if_congr hiff rfl rfl]
    rw [List.getElem?_set_ne (Ne.symm hj), List.getElem?_mapIdx, List.getElem?_mapIdx, hbelow]

/-- The first `k` channels of an acknowledge. -/
theorem foldl_acknowledgeOne_range (mask : BitVec 8) (s : State) {k : Nat} (hk : k ≤ s.channels.length) :
    (List.range k).foldl (acknowledgeOne mask) s
      = { groupScan^[(s.channels.zipIdx.take k).countP (acknowledgeScans mask)] s with
          channels := s.channels.mapIdx (acknowledgedBelow s.params.floorUs s.counter mask k) } := by
  induction k with
  | zero =>
    rw [mapIdx_acknowledgedBelow_zero]
    rfl
  | succ k ih =>
    have hlt : k < s.channels.length := hk
    have hc : s.channels[k]? = some s.channels[k] := List.getElem?_eq_getElem hlt
    generalize s.channels[k] = c at hc
    have hcount : (s.channels.zipIdx.take (k + 1)).countP (acknowledgeScans mask)
        = (acknowledgeScans mask (c, k)).toNat + (s.channels.zipIdx.take k).countP (acknowledgeScans mask) := by
      rw [List.take_add_one, List.countP_append, List.getElem?_zipIdx, hc, Nat.add_comm]
      cases hscan : acknowledgeScans mask (c, k) <;> simp [hscan]
    rw [List.range_succ, List.foldl_append, ih hlt.le, List.foldl_cons, List.foldl_nil]
    generalize hu : groupScan^[(s.channels.zipIdx.take k).countP (acknowledgeScans mask)] s = u
    have hsame : s.SameAlarms u := hu ▸ sameAlarms_iterate_groupScan _ s
    have hbefore : (s.channels.mapIdx (acknowledgedBelow s.params.floorUs s.counter mask k))[k]? = some c := by
      rw [List.getElem?_mapIdx, hc, Option.map_some, acknowledgedBelow_of_le le_rfl]
    rw [acknowledgeOne_eq hbefore, hcount, Function.iterate_add_apply, hu, iterate_groupScan_withChannels]
    simp only [hsame.params, hsame.counter, mapIdx_acknowledgedBelow_succ hc]

theorem acknowledge_eq (mask : BitVec 8) (hcount : s.channels.length = s.params.nalm) :
    acknowledge mask s = { groupScan^[acknowledgedScans mask s] s with
      channels := s.channels.mapIdx (acknowledgedChannel s.params.floorUs s.counter mask) } := by
  have hall : s.channels.mapIdx (acknowledgedBelow s.params.floorUs s.counter mask s.channels.length)
      = s.channels.mapIdx (acknowledgedChannel s.params.floorUs s.counter mask) :=
    List.mapIdx_eq_mapIdx_iff.mpr fun _ hi => acknowledgedBelow_of_lt hi _ _
  rw [acknowledge, ← hcount, foldl_acknowledgeOne_range mask s le_rfl, hall, List.take_of_length_le (by simp)]
  rfl

/-- Settles O33: channel by channel in ascending order, where the scans leave the channels and the channels the scans. -/
theorem acknowledgeServicesPendingChannels : Obligations.AcknowledgeServicesPendingChannels :=
  fun _ mask hcount => ⟨rfl, congrArg Host.Outcome.next (acknowledge_eq mask hcount)⟩

end Sys2Proof.Machine
end

section
/-! `Settle`, and what the fires of a step do to one channel (45_interrupt_arbiter.md R230, R245, R246, R248). -/

namespace Sys2Proof

/-- A command comes from a word with its op-code, to `ALM_CMD`, that names its channel (30_encoding.md R97). -/
theorem decode_command_opCode {w : OpWord} {i : Instr} {op : BitVec 2} {id : BitVec 8} (h : decode w = .ok i)
    (hi : commandChannel i = some id) (hrow : opcodeRow i = (0x1FFF00000003#45, packOp true 0x048#12 (op.setWidth 32))) :
    opRw w = true ∧ opAddr w = 0x048#12 ∧ (opData w).toNat % 4 = op.toNat ∧ (opData w).toNat / 256 % 256 = id.toNat := by
  obtain ⟨hrw, haddr, hid⟩ := decode_command h hi
  have htakes := (followsTable_of_decode h).1
  rw [hrow] at htakes
  obtain ⟨-, -, hop⟩ := and_cmdMask_eq_iff.mp htakes
  exact ⟨hrw, haddr, (word_opCode_eq_iff _ op).mp hop, hid.symm⟩

/-- The channel that an end of service names (30_encoding.md R99). -/
theorem toNat_of_decode_wrAlmEoi {w : OpWord} {id : BitVec 8} (h : decode w = .ok (.wrAlmEoi id)) :
    (opData w).toNat % 256 = id.toNat := by
  obtain ⟨hrw, haddr⟩ := decode_eq_wrAlmEoi h
  have hfield : decode w = .ok (.wrAlmEoi ((opData w).extractLsb' 0 8)) := by
    rw [← packOp_fields w, hrw, haddr, opData_packOp]
    exact decode_packOp_write_of_lookup rfl rfl
  obtain rfl : (opData w).extractLsb' 0 8 = id := by simpa using hfield.symm.trans h
  simp

namespace Machine

variable {s t : State} {i : Nat} {c : Channel}

/-- Settles O36: `Settle` ends where the comparators have run and no `SCAN` channel requests. -/
theorem settleLeavesNothingDue : Obligations.SettleLeavesNothingDue := fun _ _ ht => settled_of_settle ht

/-- Settles O37: its premises are what the measure of the services left relies on. -/
theorem settleTerminates : Obligations.SettleTerminates := fun _ hfloor hcounter hcount hintervals =>
  State.Settling.exists_settle ⟨hfloor, hcounter, hintervals⟩ hcount

/-! ### The clear -/

theorem Channel.irq_of_not_host (h : c.action ≠ .host) : c.irq = false := by
  simp [Channel.irq, h]

/-- A legal clear leaves its channel free, and the `Settle` after it leaves a free channel (R210). -/
theorem exists_finish_almClear {id : BitVec 8} (hs : s.Coherent) (hid : id.toNat < s.params.nalm)
    (hc : s.channels[id.toNat]? = some c) :
    ∃ t, finish (exec (.almClear id) s) = .next t ∧ t.channels[id.toNat]? = some (clearChannel c) := by
  have hclear : exec (.almClear id) s = .next ((s.setAlmStatus statusOk).modifyChannel id.toNat clearChannel) := by
    rw [exec_almClear, almCommand_of_ok hid (by decide) (by decide)]
  obtain ⟨t, ht⟩ := (hs.exec hclear).exists_settle
  have hfree : ((s.setAlmStatus statusOk).modifyChannel id.toNat clearChannel).channels[id.toNat]?
      = some (clearChannel c) := by
    rw [State.modifyChannel_getElem?, if_pos rfl, State.setAlmStatus_channels, hc, Option.map_some]
  have hsettled := settle_getElem?_of_not_scan hfree (by simp [clearChannel]) ht
  rw [fireChannel_of_not_due (by simp [Channel.due, clearChannel])] at hsettled
  exact ⟨t, finish_eq_next.mpr ⟨_, hclear, ht⟩, hsettled⟩

/-- Settles O55: the step is the clear with its `Settle`, and the line of a free channel is low. -/
theorem clearedAlarmIsSilent : Obligations.ClearedAlarmIsSilent := by
  intro s pins rest id c hs hid hagenda hc
  obtain ⟨hcoherent, -⟩ := State.inv_iff_coherent.mp hs
  have hbegin : (({ s with agenda := rest } : State).begin pins).Coherent := { hcoherent with }
  obtain ⟨t, ht, hfree⟩ := exists_finish_almClear hbegin hid hc
  have hdecode : decode (encode (.almClear id)) = .ok (.almClear id) := decode_encode_of_write (opRw_packOp _ _ _) rfl
  refine ⟨t, (step_of_scheduled_access hagenda hdecode).trans ht, ?_, hfree⟩
  rw [State.irq_of_getElem? hfree, Channel.irq_of_not_host (by simp [clearChannel])]

/-! ### The status bits -/

/-- In every state of a `Settle` at `now`: channel `i` is pending only after a fire that `cause` explains, so disarmed and with
its target reached, and armed only if `cause` explains it. -/
def Channel.FiredOnlyIf (now : Wide) (cause : Prop) (c : Channel) : Prop :=
  (c.intr = true → cause ∧ c.armed = false ∧ c.target ≤ now) ∧ (c.armed = true → cause)

/-- A channel that is not pending, and armed only if `cause` explains it. -/
def Channel.UnfiredIf (cause : Prop) (c : Channel) : Prop := c.intr = false ∧ (c.armed = true → cause)

variable {now : Wide} {cause : Prop}

theorem Channel.UnfiredIf.firedOnlyIf (h : c.UnfiredIf cause) (now : Wide) : c.FiredOnlyIf now cause := by
  obtain ⟨hintr, harmed⟩ := h
  exact ⟨fun hpending => by simp [hintr] at hpending, harmed⟩

theorem Channel.FiredOnlyIf.fireChannel (h : c.FiredOnlyIf now cause) : (fireChannel now c).FiredOnlyIf now cause := by
  rcases fireChannel_cases now c with ⟨hdue, h'⟩ | ⟨-, h'⟩ <;> rw [h']
  · obtain ⟨harmed, htarget⟩ := Channel.due_eq_true.mp hdue
    obtain ⟨-, hcause⟩ := h
    exact ⟨fun _ => ⟨hcause harmed, rfl, htarget⟩, by simp⟩
  · exact h

/-- The service of a pending `SCAN` channel acknowledges it, and what explained its fire explains that it is armed again. -/
theorem Channel.FiredOnlyIf.rearm_ack (h : c.FiredOnlyIf now cause) (hintr : c.intr = true) (floor : Word) :
    (rearmChannel floor now (ackChannel c)).FiredOnlyIf now cause := by
  obtain ⟨hfired, -⟩ := h
  obtain ⟨hcause, -⟩ := hfired hintr
  refine Channel.UnfiredIf.firedOnlyIf ⟨?_, fun _ => hcause⟩ now
  rcases rearmChannel_cases floor now (ackChannel c) with ⟨-, h'⟩ | ⟨-, h'⟩ <;> rw [h'] <;> rfl

/-- What a comparator and the service of a pending `SCAN` channel keep of a channel, `Settle` keeps of channel `i`. -/
theorem settle_channel_induct {P : Channel → Prop} (hfire : ∀ d, P d → P (fireChannel s.counter d))
    (hserv : ∀ d, P d → d.intr = true → P (rearmChannel s.params.floorUs s.counter (ackChannel d)))
    (hc : s.channels[i]? = some c) (hP : P c) (ht : settle s = some t) : ∃ d, t.channels[i]? = some d ∧ P d := by
  obtain ⟨-, hend⟩ : s.SameUnderService t ∧ ∃ d, t.channels[i]? = some d ∧ P d := by
    refine settleLoop_induct (P := fun u => s.SameUnderService u ∧ ∃ d, u.channels[i]? = some d ∧ P d) ?comparators
      ?service ⟨.refl s, c, hc, hP⟩ ht
    case comparators =>
      rintro u ⟨hsame, d, hd, hPd⟩
      refine ⟨hsame.trans ⟨rfl, rfl, rfl, rfl⟩, _, by rw [fireAll_getElem?, hd, Option.map_some], ?_⟩
      rw [hsame.counter]
      exact hfire d hPd
    case service =>
      rintro u j e ⟨hsame, d, hd, hPd⟩ he hreq
      refine ⟨hsame.trans (sameUnderService_service j u), ?_⟩
      by_cases hj : j = i
      · subst hj
        obtain rfl := Option.some.inj (hd.symm.trans he)
        refine ⟨_, ?_, hserv d hPd (Channel.intr_of_scanRequest hreq)⟩
        rw [service_channels_of_scan hd (Channel.action_of_scanRequest hreq), modify_eq_set hd, hsame.params, hsame.counter]
        obtain ⟨hlt, -⟩ := List.getElem?_eq_some_iff.mp hd
        exact List.getElem?_set_self hlt
      · exact ⟨d, by rw [service_getElem?_of_other hj, hd], hPd⟩
  exact hend

/-- An operation that may arm channel `i`, which is `c` before it: a set command that names it (R212), or the end of service
that rearms it (R222). -/
def ArmsChannel (i : Nat) (c : Channel) : Instr → Prop
  | .almSetOneshot _ id | .almSetRepeating _ id => id.toNat = i
  | .wrAlmEoi id => id.toNat = i ∧ c.insvc = true ∧ c.rearmOk = true ∧ c.repeating = true
  | _ => False

/-- Channel `i` of the block is not pending, and armed only if `cause` explains it. -/
def State.HoldsUnfiredIf (i : Nat) (cause : Prop) (s : State) : Prop := ∃ d, s.channels[i]? = some d ∧ d.UnfiredIf cause

theorem State.holdsUnfiredIf_of_channels_eq (hc : s.channels[i]? = some c) (hintr : c.intr = false)
    (heq : t.channels = s.channels) : t.HoldsUnfiredIf i (c.armed = true ∨ cause) :=
  ⟨c, heq ▸ hc, hintr, .inl⟩

/-- A rewrite of one channel leaves another channel, and channel `i` as the rewrite says. -/
theorem State.holdsUnfiredIf_modifyChannel (hc : s.channels[i]? = some c) (hintr : c.intr = false) {j : Nat}
    {f : Channel → Channel} (hf : j = i → (f c).UnfiredIf (c.armed = true ∨ cause)) :
    (s.modifyChannel j f).HoldsUnfiredIf i (c.armed = true ∨ cause) := by
  rw [State.HoldsUnfiredIf, State.modifyChannel_getElem?, hc]
  split
  · rename_i hj; exact ⟨f c, rfl, hf hj⟩
  · exact ⟨c, rfl, hintr, .inl⟩

/-- A command leaves another channel, and channel `i` as its effect does. -/
theorem State.holdsUnfiredIf_almCommand (hc : s.channels[i]? = some c) (hintr : c.intr = false) {op act : BitVec 2}
    {id : BitVec 8} {effect : State → State} {f : State → Channel → Channel}
    (heffect : ∀ u : State, effect u = u.modifyChannel id.toNat (f u))
    (hf : ∀ u, id.toNat = i → (f u c).UnfiredIf (c.armed = true ∨ cause)) :
    (almCommand op act id effect s).HoldsUnfiredIf i (c.armed = true ∨ cause) := by
  rcases almCommand_cases op act id effect s with ⟨-, h⟩ | ⟨-, h⟩ <;> rw [h]
  · rw [heffect]
    exact State.holdsUnfiredIf_modifyChannel (s := s.setAlmStatus statusOk) hc hintr (hf _)
  · exact State.holdsUnfiredIf_of_channels_eq hc hintr rfl

/-- An end of service arms only a repeating alarm whose registration still stands. -/
theorem leaveHostService_unfiredIf (hintr : c.intr = false) (floor : Word) (now : Wide)
    (hcause : c.insvc = true → c.rearmOk = true → c.repeating = true → cause) :
    (leaveHostService floor now c).UnfiredIf (c.armed = true ∨ cause) := by
  rcases leaveHostService_cases floor now c with ⟨-, h⟩ | ⟨-, -, h⟩ | ⟨hin, hok, h⟩ <;> rw [h]
  · exact ⟨hintr, .inl⟩
  · exact ⟨hintr, .inl⟩
  · rcases rearmChannel_cases floor now { c with insvc := false, rearmOk := false } with ⟨hrep, h'⟩ | ⟨-, h'⟩ <;> rw [h']
    · exact ⟨hintr, fun _ => .inr (hcause hin hok hrep)⟩
    · exact ⟨hintr, by simp⟩

/-- No operation makes a channel pending, and none arms it but those of `ArmsChannel`. -/
theorem holdsUnfiredIf_of_exec {instr : Instr} (hc : s.channels[i]? = some c) (hintr : c.intr = false)
    (ht : exec instr s = .next t) : t.HoldsUnfiredIf i (c.armed = true ∨ ArmsChannel i c instr) := by
  cases instr with
  | almClear id =>
    cases ht
    exact State.holdsUnfiredIf_almCommand hc hintr (fun _ => rfl) fun _ _ => ⟨rfl, by simp [clearChannel]⟩
  | almSetOneshot act id | almSetRepeating act id =>
    cases ht
    exact State.holdsUnfiredIf_almCommand hc hintr (fun _ => rfl) fun _ hid => ⟨rfl, fun _ => .inr hid⟩
  | almCmdRsvd id =>
    cases ht
    exact State.holdsUnfiredIf_almCommand hc hintr (fun u => (u.modifyChannel_self id.toNat).symm) fun _ _ => ⟨hintr, .inl⟩
  | wrAlmEoi id =>
    cases ht
    rcases endOfService_cases id s with ⟨-, h⟩ | ⟨-, h⟩ <;> rw [h]
    · exact State.holdsUnfiredIf_of_channels_eq hc hintr rfl
    · exact State.holdsUnfiredIf_modifyChannel (s := s.setAlmStatus statusOk) hc hintr fun hid =>
        leaveHostService_unfiredIf hintr _ _ fun hin hok hrep => ⟨hid, hin, hok, hrep⟩
  | wrInte | wrInteSet | wrInteClr =>
    cases ht
    refine ⟨_, by rw [State.mapChannels_getElem?, hc, Option.map_some], ?_⟩
    exact ⟨hintr, .inl⟩
  | wrIntr mask => cases ht; exact ⟨c, acknowledge_getElem?_of_not_pending hc hintr, hintr, .inl⟩
  | wrGrpScan => cases ht; exact State.holdsUnfiredIf_of_channels_eq hc hintr (groupScan_channels s)
  | wrBtnCmd index en =>
    refine State.holdsUnfiredIf_of_channels_eq hc hintr ?_
    by_cases hindex : s.params.nbtn ≤ index.toNat
    · rw [exec_wrBtnCmd_of_ge hindex] at ht; cases ht; rfl
    · rw [exec_wrBtnCmd_of_lt (Nat.not_le.mp hindex)] at ht; cases ht; rfl
  | poll =>
    refine State.holdsUnfiredIf_of_channels_eq hc hintr ?_
    cases hq : s.evq with
    | nil => rw [exec_poll_of_nil hq] at ht; cases ht; rfl
    | cons e rest => rw [exec_poll_of_cons hq] at ht; cases ht; rfl
  | _ => cases ht; exact State.holdsUnfiredIf_of_channels_eq hc hintr rfl

/-- The words of the operations that may arm a channel. -/
theorem armsChannel_of_decode {w : OpWord} {instr : Instr} (hdecode : decode w = .ok instr) (h : ArmsChannel i c instr) :
    opRw w = true
      ∧ ((opAddr w = 0x048#12 ∧ ((opData w).toNat % 4 = 1 ∨ (opData w).toNat % 4 = 2)
            ∧ (opData w).toNat / 256 % 256 = i)
        ∨ (opAddr w = 0x050#12 ∧ (opData w).toNat % 256 = i
            ∧ c.insvc = true ∧ c.rearmOk = true ∧ c.repeating = true)) := by
  cases instr with
  | almSetOneshot act id =>
    obtain ⟨hrw, haddr, hop, hid⟩ := decode_command_opCode (op := 1#2) hdecode rfl rfl
    exact ⟨hrw, .inl ⟨haddr, .inl hop, hid.trans h⟩⟩
  | almSetRepeating act id =>
    obtain ⟨hrw, haddr, hop, hid⟩ := decode_command_opCode (op := 2#2) hdecode rfl rfl
    exact ⟨hrw, .inl ⟨haddr, .inr hop, hid.trans h⟩⟩
  | wrAlmEoi id =>
    obtain ⟨hrw, haddr⟩ := decode_eq_wrAlmEoi hdecode
    obtain ⟨hid, hrearms⟩ := h
    exact ⟨hrw, .inr ⟨haddr, (toNat_of_decode_wrAlmEoi hdecode).trans hid, hrearms⟩⟩
  | _ => exact h.elim

/-- A channel that is pending after a `Settle`, and was not before it, fired in it. -/
theorem fired_of_settle {d : Channel} (hs : s.HoldsUnfiredIf i cause) (ht : settle s = some t)
    (hd : t.channels[i]? = some d) (hpending : d.intr = true) :
    (d.armed = false ∧ d.target.toNat ≤ t.counter.toNat) ∧ cause := by
  obtain ⟨c, hc, hunfired⟩ := hs
  obtain ⟨e, he, hfired, -⟩ := settle_channel_induct (P := Channel.FiredOnlyIf s.counter cause) (fun _ h => h.fireChannel)
    (fun _ h hintr => h.rearm_ack hintr _) hc (hunfired.firedOnlyIf s.counter) ht
  obtain rfl := Option.some.inj (hd.symm.trans he)
  obtain ⟨hcause, harmed, htarget⟩ := hfired hpending
  rw [(sameUnderService_of_settle ht).counter]
  exact ⟨⟨harmed, BitVec.le_def.mp htarget⟩, hcause⟩

/-- Settles O52: before the `Settle` of the step the channel is not pending, and armed only as before the step or by an
operation of `ArmsChannel`; a reset leaves nothing pending. -/
theorem statusBitsAreSetByFiresOnly : Obligations.StatusBitsAreSetByFiresOnly := by
  rintro s t _ i c d rfl ht hc hd hintr hpending
  rw [← (nextEnvStep_sameAlarms s).channels] at hc
  rcases step_cases ht with ⟨-, h⟩ | ⟨w, instr, hw, hdecode, h⟩ | ⟨-, rfl⟩
  · obtain ⟨u, hu, hsettle⟩ := finish_eq_next.mp h
    obtain ⟨-, rfl⟩ := tick_eq_next hu
    obtain ⟨hfired, harmed⟩ := fired_of_settle (by exact ⟨c, hc, hintr, id⟩) hsettle hd hpending
    exact ⟨hfired, .inl harmed⟩
  · obtain ⟨u, hu, hsettle⟩ := finish_eq_next.mp h
    obtain ⟨hfired, hcause⟩ := fired_of_settle (holdsUnfiredIf_of_exec hc hintr hu) hsettle hd hpending
    exact ⟨hfired, hcause.imp id fun harms => ⟨w, hw, armsChannel_of_decode hdecode harms⟩⟩
  · obtain rfl := List.eq_of_mem_replicate (List.mem_of_getElem? hd)
    simp [Channel.reset] at hpending

end Machine
end Sys2Proof
end

section
/-! Which steps have no meaning, and that no other step stops (60_exceptions.md R255, R260; 20_memory.md R62;
44_timer_alarm_scheduler.md R195; 45_interrupt_arbiter.md R246). -/

namespace Sys2Proof

/-- R62: an operation word decodes exactly where its address is aligned. -/
theorem exists_decode_iff {w : OpWord} : (∃ i, decode w = .ok i) ↔ (opAddr w).toNat % 4 = 0 := by
  simp only [decode_eq_ok_iff, exists_and_left, exists_eq', and_true, wordAligned_iff]

namespace Machine

variable {s t : State} {size : Nat} {w : OpWord} {a : EnvAction} {e : Refusal}

/-- R255: every operation is answered, none faults or is refused of its own; the operations with a branch are the construction
of a button and `POLL`. -/
theorem exists_exec (i : Instr) (s : State) : ∃ t, exec i s = .next t := by
  cases i with
  | wrBtnCmd index en =>
    by_cases hindex : s.params.nbtn ≤ index.toNat
    · exact ⟨_, exec_wrBtnCmd_of_ge hindex en⟩
    · exact ⟨_, exec_wrBtnCmd_of_lt (Nat.not_le.mp hindex) en⟩
  | poll =>
    cases hq : s.evq with
    | nil => exact ⟨_, exec_poll_of_nil hq⟩
    | cons word rest => exact ⟨_, exec_poll_of_cons hq⟩
  | _ => exact ⟨_, rfl⟩

/-! ### A bus transaction -/

/-- R260: the transactions of another size than four bytes or at a misaligned address. -/
def SubWordOrMisaligned (size : Nat) (w : OpWord) : Prop := size ≠ 4 ∨ (opAddr w).toNat % 4 ≠ 0

theorem access_of_subWordOrMisaligned (h : SubWordOrMisaligned size w) (s : State) :
    access size w s = .refused .subWordOrMisaligned := by
  by_cases hsize : size = 4
  · cases hdecode : decode w with
    | ok i => exact absurd (exists_decode_iff.mp ⟨i, hdecode⟩) (h.resolve_left (not_not_intro hsize))
    | error _ => simp [access, fetchOperation, hsize, hdecode]
  · simp [access, fetchOperation, hsize]

theorem access_of_not_subWordOrMisaligned (h : ¬ SubWordOrMisaligned size w) (s : State) :
    ∃ i, access size w s = finish (exec i s) := by
  obtain ⟨rfl, haligned⟩ : size = 4 ∧ (opAddr w).toNat % 4 = 0 := by simpa [SubWordOrMisaligned] using h
  obtain ⟨i, hi⟩ := exists_decode_iff.mpr haligned
  exact ⟨i, access_four_of_decode hi s⟩

/-! ### The refusals -/

/-- The `Settle` that ends a step may cut it off with a fault; it never refuses it. -/
theorem finish_eq_refused_iff {r : Result} : finish r = .refused e ↔ r = .refused e := by
  cases r with
  | next s => cases h : settle s <;> simp [finish, h]
  | fault _ => rfl
  | refused _ => rfl

theorem tick_eq_refused_iff :
    tick s = .refused e ↔ Config.wrapLimit ≤ s.counter.toNat + 1 ∧ e = .counterWrapRegion := by
  rcases tick_cases s with ⟨hge, h⟩ | ⟨hlt, h⟩
  · simp [h, hge, eq_comm]
  · simp [h, Nat.not_le.mpr hlt]

theorem access_eq_refused_iff :
    access size w s = .refused e ↔ SubWordOrMisaligned size w ∧ e = .subWordOrMisaligned := by
  by_cases h : SubWordOrMisaligned size w
  · simp [access_of_subWordOrMisaligned h, h, eq_comm]
  · obtain ⟨i, hi⟩ := access_of_not_subWordOrMisaligned h s
    obtain ⟨t, ht⟩ := exists_exec i s
    simp [hi, finish_eq_refused_iff, ht, h]

/-- R260: the refusals of one step, by its kind; a reset is never refused. -/
theorem runStep_eq_refused_iff :
    runStep a s = .refused e ↔
      (a = .tick ∧ Config.wrapLimit ≤ s.counter.toNat + 1 ∧ e = .counterWrapRegion)
        ∨ ∃ size w, a = .access size w ∧ SubWordOrMisaligned size w ∧ e = .subWordOrMisaligned := by
  cases a with
  | tick => simp [runStep, finish_eq_refused_iff, tick_eq_refused_iff]
  | access size w => simp [runStep, access_eq_refused_iff]
  | reset => simp [runStep]

/-- Settles O40: the start of a step, scheduled or drawn, leaves the counter, and the step is refused by its kind. -/
theorem refusedSteps : Obligations.RefusedSteps := by
  rintro s _ rfl r
  rw [← (nextEnvStep_sameAlarms s).counter]
  exact runStep_eq_refused_iff

/-! ### No fault -/

/-- R246: the `Settle` that ends a step answers. -/
theorem State.Coherent.exists_finish (h : s.Coherent) : ∃ t, finish (.next s) = .next t := by
  obtain ⟨t, ht⟩ := h.exists_settle
  exact ⟨t, finish_eq_next.mpr ⟨s, rfl, ht⟩⟩

/-- A step that is not refused hands to `Settle` what the tick or the operation left, which keeps all of the invariant but its
last part; a reset has no `Settle`. -/
theorem State.Coherent.runStep_answers (h : s.Coherent) (a : EnvAction) :
    (∃ t, runStep a s = .next t) ∨ ∃ r, runStep a s = .refused r := by
  cases a with
  | tick =>
    rcases tick_cases s with ⟨-, htick⟩ | ⟨-, htick⟩
    · exact .inr ⟨_, finish_eq_refused_iff.mpr htick⟩
    · obtain ⟨t, ht⟩ := (h.tick htick).exists_finish
      exact .inl ⟨t, (congrArg finish htick).trans ht⟩
  | access size w =>
    by_cases hbad : SubWordOrMisaligned size w
    · exact .inr ⟨_, access_of_subWordOrMisaligned hbad s⟩
    · obtain ⟨i, hi⟩ := access_of_not_subWordOrMisaligned hbad s
      obtain ⟨u, hu⟩ := exists_exec i s
      obtain ⟨t, ht⟩ := (h.exec hu).exists_finish
      exact .inl ⟨t, hi.trans ((congrArg finish hu).trans ht)⟩
  | reset => exact .inl ⟨_, rfl⟩

/-- Settles O44: the start of a step keeps what the invariant gives for `Settle`. -/
theorem noStepFaults : Obligations.NoStepFaults := fun _ hs =>
  (State.inv_iff_coherent.mp hs).1.nextEnvStep.runStep_answers _

end Machine
end Sys2Proof
end

section
/-! The filter bit, the filter update and the action-finished gate (41_majority_filter.md R136 to R140). -/

namespace Sys2Proof.Machine

variable {raw filt : Wide} {hs fs af : Nat}

/-! ### The filter bit (R136) -/

theorem filterBit_of_lowAllOnes (h : lowAllOnes raw hs fs = true) : filterBit raw filt hs fs = true := if_pos h

/-- In a window of at least one bit no run of samples is both all 1 and all 0, so all zeros decide the bit although the test
for ones comes first. -/
theorem filterBit_of_lowAllZeros (hpos : 1 ≤ hs) (hhs : hs ≤ 64) (hfs : 1 ≤ fs) (h : lowAllZeros raw hs fs = true) :
    filterBit raw filt hs fs = false := by
  have hones : ¬lowAllOnes raw hs fs = true := fun hones => by
    have hset := ((lowAllOnes_iff hhs).mp hones).2 0 hfs
    have hclear := (lowAllZeros_iff hhs).mp h 0 hfs hpos
    exact Bool.false_ne_true (hclear.symm.trans hset)
  exact (if_neg hones).trans (if_pos h)

/-- Without unanimous samples the previous bit is carried. -/
theorem filterBit_of_mixed (hpos : 1 ≤ hs) (hones : ¬lowAllOnes raw hs fs = true) (hzeros : ¬lowAllZeros raw hs fs = true) :
    filterBit raw filt hs fs = filt.getLsbD 0 :=
  (if_neg hones).trans ((if_neg hzeros).trans (test_of_lt hpos))

/-- R138 item 3: a filter deeper than the window is cleared by an empty window and never set by the samples. -/
theorem filterBit_of_hs_lt (hpos : 1 ≤ hs) (hhs : hs ≤ 64) (hraw : raw.toNat < 2 ^ hs) (hfs : hs < fs) :
    filterBit raw filt hs fs = (decide (raw ≠ 0#64) && filt.getLsbD 0) := by
  have hzeros := lowAllZeros_of_hs_lt hraw hfs
  by_cases hempty : raw = 0#64
  · rw [filterBit_of_lowAllZeros hpos hhs (hpos.trans hfs.le) (hzeros.mpr hempty), decide_eq_false (not_not_intro hempty),
      Bool.false_and]
  · have hones : ¬lowAllOnes raw hs fs = true := Bool.eq_false_iff.mp (lowAllOnes_of_hs_lt hfs)
    rw [filterBit_of_mixed hpos hones (mt hzeros.mp hempty), decide_eq_true hempty, Bool.true_and]

/-- Settles O5, one lemma for each outcome of the two tests, and the filter deeper than the window. -/
theorem filterBitFlipsOnUnanimity : Obligations.FilterBitFlipsOnUnanimity := by
  intro raw filt hs fs hpos hhs hfs hraw
  rw [← lowAllOnes_iff hhs, ← lowAllZeros_iff_of_lt_two_pow hhs hraw]
  exact ⟨filterBit_of_lowAllOnes, filterBit_of_lowAllZeros hpos hhs hfs, filterBit_of_mixed hpos,
    filterBit_of_hs_lt hpos hhs hraw⟩

/-! ### The filter update (R137) -/

/-- A bit can be pushed as a 0 and then set. -/
theorem setBit_push_zero (hpos : 1 ≤ hs) (hhs : hs ≤ 64) (w : Wide) (v b : Bool) :
    setBit (push w hs v) hs 0 b = push w hs b :=
  BitVec.eq_of_getLsbD_eq fun i _ => by
    rw [setBit_getLsbD_of_lt hhs hpos, push_getLsbD hhs, push_getLsbD hhs]
    by_cases hi : i = 0
    · rw [if_pos hi, if_pos hi]
    · rw [if_neg hi, if_neg hi, if_neg hi, Bool.and_self_left]

/-- Settles O6: the update is a push, and a push is a push of 0 with its newest bit set. -/
theorem filterUpdateShiftsInTheFilterBit : Obligations.FilterUpdateShiftsInTheFilterBit := fun _ filt _ _ hpos hhs =>
  ⟨push_getLsbD hhs filt _, (setBit_push_zero hpos hhs filt false _).symm⟩

/-! ### The gate (R140) -/

theorem gate_zero (filt : Wide) (hs : Nat) : gate filt hs 0 = true := rfl

theorem gate_iff (hhs : hs ≤ 64) (haf : af ≤ hs) :
    gate filt hs af = true ↔ af = 0 ∨ ∀ i, i < af → filt.getLsbD i = false := by
  rw [gate, Bool.or_eq_true, beq_iff_eq, lowAllZeros_iff hhs]
  exact or_congr_right (forall₂_congr fun i hi => forall_prop_of_true (hi.trans_le haf))

/-- R156: without multi-click the clamp forces `AF` to 0. -/
theorem clampAf_of_single_click {a : Word} (h : a.getLsbD 1 = false) : clampAf a = 0 := if_neg (Bool.eq_false_iff.mp h)

/-- Settles O7, by the bits of the low-run test, and by the clamp of `AF` for the configuration words. -/
theorem gateOpensOnQuietRelease : Obligations.GateOpensOnQuietRelease := by
  refine ⟨fun _ _ _ => gate_iff, fun a b filt => ?_⟩
  rw [clamp_hs_toNat, clamp_af_toNat]
  refine ⟨clampAf_le a, fun hsingle => ?_⟩
  rw [clampAf_of_single_click hsingle, gate_zero]

end Sys2Proof.Machine
end
